-- ==== Sys2Proof/Word.lean ====
section
/-! DEFINITION. The byte of the Point Line. -/

namespace Sys2Proof

/-- The data bits of one character (R2), one byte of a telegram. -/
abbrev Byte := BitVec 8

end Sys2Proof
end

