-- ==== Sys2Proof/Syntax.lean ====
section
/-! DEFINITION. The commands of the part: one constructor of `Instr` for each row of
spec/opcode_table.json. -/

namespace Sys2Proof

/-- The three line ports, in the numbering of PORT_ERROR (R16): plant 0, bowl 1, supervisor 2. -/
inductive Port where
  | plant | bowl | supervisor
deriving DecidableEq, Repr

/-- The two field ports and their segments: plant 0, bowl 1 (R31). -/
inductive Segment where
  | plant | bowl
deriving DecidableEq, Repr

/-- The line port of a segment. -/
def Segment.port : Segment → Port
  | .plant => .plant
  | .bowl => .bowl

/-- A management request as the supervisor sends it (R8): its source station, its tag and the
operand bytes that follow the tag. For a WRITE_ENTRY row the operands begin after the table code,
which the row fixes; for READ_ENTRY and READ_STATUS they begin with the table or unit code. -/
structure Request where
  source   : Byte
  tag      : Byte
  operands : List Byte
deriving DecidableEq, Repr

/-- The steps of the part, one constructor for each row of spec/opcode_table.json, in its order. -/
inductive Instr where
  /-- One character at a port: its line level at each sample (R2), from where its receiver looks for a
  start bit, or from any later idle, to the stop bit's ninth sample or beyond. -/
  | characterReceived (port : Port) (samples : List Bool)
  | gapTimerExpiry (port : Port)
  | portQuiet (segment : Segment)
  | transmissionEnd (port : Port)
  | replyWindowExpiry (segment : Segment)
  | pollDue (segment : Segment) (slot : Fin 32)
  | inboundTelegramTake
  | staleExpiry (point : Fin 256)
  | holdExpiry (point : Fin 256)
  | refreshExpiry (point : Fin 256)
  | overrideExpiry (point : Fin 256)
  | fogEvaluation
  | heatEvaluation
  | seekStepEnd (channel : Fin 4)
  | searchStepEnd (channel : Fin 4)
  | seatStepEnd (channel : Fin 4)
  | settleEnd (channel : Fin 4)
  | closedAssert (channel : Fin 4)
  | closedRelease (channel : Fin 4)
  | manAssert (channel : Fin 4)
  | manRelease (channel : Fin 4)
  | dfltAssert (channel : Fin 4)
  | dfltRelease (channel : Fin 4)
  | faultClearPulseEnd (channel : Fin 4)
  | valveLinesPlaced
  | cueFrame
  | writeEntryPointRecord (r : Request)
  | writeEntryPollEntry (r : Request)
  | writeEntryFieldPortSetting (r : Request)
  | writeEntrySaturationKnot (r : Request)
  | writeEntryFogConfiguration (r : Request)
  | writeEntryHeatPlantPart (r : Request)
  | writeEntryLightingLoad (r : Request)
  | writeEntryValveConfiguration (r : Request)
  | writeEntryProfile (r : Request)
  | writeEntryCueRecord (r : Request)
  | writeEntrySpanEntry (r : Request)
  | writeEntrySceneLevel (r : Request)
  | writeEntryCaptureDescriptor (r : Request)
  | writeEntryNoticeLevel (r : Request)
  | readEntry (r : Request)
  | readStatus (r : Request)
  /-- A REQUEST that is too short for code and tag, or whose request, table or unit code is
  unknown (R8): its source station and its whole body. -/
  | unknownRequest (source : Byte) (body : List Byte)
  | validate (r : Request)
  | selectProfile (r : Request)
  | go (r : Request)
  | stop (r : Request)
  | homeValve (r : Request)
  | clearValveFault (r : Request)
  | enableCapture (r : Request)
  | disableCapture (r : Request)
  | setBoilerLimit (r : Request)
  | setAlarmThreshold (r : Request)
  | setRate (r : Request)
  | setSearch (r : Request)
  | clearCounts (r : Request)
  | clearResetCause (r : Request)
  | restart (r : Request)
  | powerOn
  | lineReset
  /-- The hold of a reset ends; the straps SA0 to SA6 read as this number (R181, R182). -/
  | workStart (straps : BitVec 7)
deriving DecidableEq, Repr

end Sys2Proof
end

