-- ==== Sys2Proof/WellFormed.lean ====
section
/-! DEFINITION. Which commands can come at all: a REQUEST fits one telegram (R5: body length at
most 40), and each request row carries the codes that make it that row (R8, R178, R180). -/

namespace Sys2Proof

/-- A request body whose code is in the table of R8 and, for WRITE_ENTRY, READ_ENTRY and
READ_STATUS, whose table or unit code is in the tables of R178 and R180. -/
def knownRequest (body : List Byte) : Bool :=
  match body with
  | code :: _ :: operands =>
    match code.toNat, operands with
    | 1, table :: _ => table.toNat ≤ 13
    | 2, table :: _ => table.toNat ≤ 13
    | 4, unit :: _ => unit.toNat ≤ 12
    | 1, [] => false
    | 2, [] => false
    | 4, [] => false
    | c, _ => 1 ≤ c ∧ c ≤ 18
  | _ => false

/-- Operands that fit after code and tag. -/
def Request.fits (r : Request) : Bool := r.operands.length ≤ 38

/-- Operands that fit after code, tag and table code. -/
def Request.fitsWrite (r : Request) : Bool := r.operands.length ≤ 37

/-- The first operand is a code of 0 to `last`. -/
def Request.leadsWith (r : Request) (last : Nat) : Bool :=
  match r.operands with
  | code :: _ => code.toNat ≤ last
  | [] => false

/-- The commands that can come to the part. Every other command than a request row is well formed. -/
def Instr.wf : Instr → Bool
  | .writeEntryPointRecord r => r.fitsWrite
  | .writeEntryPollEntry r => r.fitsWrite
  | .writeEntryFieldPortSetting r => r.fitsWrite
  | .writeEntrySaturationKnot r => r.fitsWrite
  | .writeEntryFogConfiguration r => r.fitsWrite
  | .writeEntryHeatPlantPart r => r.fitsWrite
  | .writeEntryLightingLoad r => r.fitsWrite
  | .writeEntryValveConfiguration r => r.fitsWrite
  | .writeEntryProfile r => r.fitsWrite
  | .writeEntryCueRecord r => r.fitsWrite
  | .writeEntrySpanEntry r => r.fitsWrite
  | .writeEntrySceneLevel r => r.fitsWrite
  | .writeEntryCaptureDescriptor r => r.fitsWrite
  | .writeEntryNoticeLevel r => r.fitsWrite
  | .readEntry r => r.fits && r.leadsWith 13
  | .readStatus r => r.fits && r.leadsWith 12
  | .unknownRequest _ body => decide (body.length ≤ 40) && !knownRequest body
  | .validate r => r.fits
  | .selectProfile r => r.fits
  | .go r => r.fits
  | .stop r => r.fits
  | .homeValve r => r.fits
  | .clearValveFault r => r.fits
  | .enableCapture r => r.fits
  | .disableCapture r => r.fits
  | .setBoilerLimit r => r.fits
  | .setAlarmThreshold r => r.fits
  | .setRate r => r.fits
  | .setSearch r => r.fits
  | .clearCounts r => r.fits
  | .clearResetCause r => r.fits
  | .restart r => r.fits
  | .characterReceived _ _ => true
  | .gapTimerExpiry _ => true
  | .portQuiet _ => true
  | .transmissionEnd _ => true
  | .replyWindowExpiry _ => true
  | .pollDue _ _ => true
  | .inboundTelegramTake => true
  | .staleExpiry _ => true
  | .holdExpiry _ => true
  | .refreshExpiry _ => true
  | .overrideExpiry _ => true
  | .fogEvaluation => true
  | .heatEvaluation => true
  | .seekStepEnd _ => true
  | .searchStepEnd _ => true
  | .seatStepEnd _ => true
  | .settleEnd _ => true
  | .closedAssert _ => true
  | .closedRelease _ => true
  | .manAssert _ => true
  | .manRelease _ => true
  | .dfltAssert _ => true
  | .dfltRelease _ => true
  | .faultClearPulseEnd _ => true
  | .valveLinesPlaced => true
  | .cueFrame => true
  | .powerOn => true
  | .lineReset => true
  | .workStart _ => true

end Sys2Proof
end

