-- ==== Sys2Proof/Decode.lean ====
section
/-! DEFINITION. From bits to commands. The opcode table gives none of its rows any bits (every
"fields" list is empty), so `decodeTableWord` answers none. What the part does decode is the body
of a REQUEST telegram (R8, R178, R179, R180): `decodeRequest` names the row that a body stands
for, and `encodeRequest` writes the body of a request command. -/

namespace Sys2Proof

/-- The command that a word spells by the table's bits: the table gives no row any bits, so none. -/
def decodeTableWord (_nbits _w : Nat) : Option Instr := none

/-- The WRITE_ENTRY row of a table code (R178), with the operands after it. -/
def decodeWrite (source tag table : Byte) (operands : List Byte) : Option Instr :=
  let r : Request := ⟨source, tag, operands⟩
  match table.toNat with
  | 0 => some (.writeEntryPointRecord r)
  | 1 => some (.writeEntryPollEntry r)
  | 2 => some (.writeEntryFieldPortSetting r)
  | 3 => some (.writeEntrySaturationKnot r)
  | 4 => some (.writeEntryFogConfiguration r)
  | 5 => some (.writeEntryHeatPlantPart r)
  | 6 => some (.writeEntryLightingLoad r)
  | 7 => some (.writeEntryValveConfiguration r)
  | 8 => some (.writeEntryProfile r)
  | 9 => some (.writeEntryCueRecord r)
  | 10 => some (.writeEntrySpanEntry r)
  | 11 => some (.writeEntrySceneLevel r)
  | 12 => some (.writeEntryCaptureDescriptor r)
  | 13 => some (.writeEntryNoticeLevel r)
  | _ => none

/-- A request whose first operand is a code of 0 to `last`, or none. -/
def decodeCoded (last : Nat) (r : Request) (row : Request → Instr) : Option Instr :=
  match r.operands with
  | code :: _ => if code.toNat ≤ last then some (row r) else none
  | [] => none

/-- The row of a known request (R8's table of codes), or none. -/
def decodeKnown (source code tag : Byte) (operands : List Byte) : Option Instr :=
  let r : Request := ⟨source, tag, operands⟩
  match code.toNat with
  | 1 =>
    match operands with
    | table :: rest => decodeWrite source tag table rest
    | [] => none
  | 2 => decodeCoded 13 r .readEntry
  | 3 => some (.validate r)
  | 4 => decodeCoded 12 r .readStatus
  | 5 => some (.selectProfile r)
  | 6 => some (.go r)
  | 7 => some (.stop r)
  | 8 => some (.homeValve r)
  | 9 => some (.clearValveFault r)
  | 10 => some (.enableCapture r)
  | 11 => some (.disableCapture r)
  | 12 => some (.setBoilerLimit r)
  | 13 => some (.setAlarmThreshold r)
  | 14 => some (.setRate r)
  | 15 => some (.setSearch r)
  | 16 => some (.clearCounts r)
  | 17 => some (.clearResetCause r)
  | 18 => some (.restart r)
  | _ => none

/-- The row that the body of a REQUEST telegram stands for: any body whatever, UNKNOWN_REQUEST
where R8 knows no request, table or unit of that code. -/
def decodeRequest (source : Byte) (body : List Byte) : Instr :=
  match body with
  | code :: tag :: operands =>
    match decodeKnown source code tag operands with
    | some i => i
    | none => .unknownRequest source body
  | _ => .unknownRequest source body

/-- Source station and body of a request with this code. -/
def encodeCoded (code : Byte) (r : Request) : Byte × List Byte :=
  (r.source, code :: r.tag :: r.operands)

/-- Source station and body of a WRITE_ENTRY to this table. -/
def encodeWrite (table : Byte) (r : Request) : Byte × List Byte :=
  (r.source, 1#8 :: r.tag :: table :: r.operands)

/-- Source station and body of the REQUEST telegram of a request command (R8, R178); none for a
command that is no request. -/
def encodeRequest : Instr → Option (Byte × List Byte)
  | .writeEntryPointRecord r => some (encodeWrite 0#8 r)
  | .writeEntryPollEntry r => some (encodeWrite 1#8 r)
  | .writeEntryFieldPortSetting r => some (encodeWrite 2#8 r)
  | .writeEntrySaturationKnot r => some (encodeWrite 3#8 r)
  | .writeEntryFogConfiguration r => some (encodeWrite 4#8 r)
  | .writeEntryHeatPlantPart r => some (encodeWrite 5#8 r)
  | .writeEntryLightingLoad r => some (encodeWrite 6#8 r)
  | .writeEntryValveConfiguration r => some (encodeWrite 7#8 r)
  | .writeEntryProfile r => some (encodeWrite 8#8 r)
  | .writeEntryCueRecord r => some (encodeWrite 9#8 r)
  | .writeEntrySpanEntry r => some (encodeWrite 10#8 r)
  | .writeEntrySceneLevel r => some (encodeWrite 11#8 r)
  | .writeEntryCaptureDescriptor r => some (encodeWrite 12#8 r)
  | .writeEntryNoticeLevel r => some (encodeWrite 13#8 r)
  | .readEntry r => some (encodeCoded 2#8 r)
  | .readStatus r => some (encodeCoded 4#8 r)
  | .unknownRequest source body => some (source, body)
  | .validate r => some (encodeCoded 3#8 r)
  | .selectProfile r => some (encodeCoded 5#8 r)
  | .go r => some (encodeCoded 6#8 r)
  | .stop r => some (encodeCoded 7#8 r)
  | .homeValve r => some (encodeCoded 8#8 r)
  | .clearValveFault r => some (encodeCoded 9#8 r)
  | .enableCapture r => some (encodeCoded 10#8 r)
  | .disableCapture r => some (encodeCoded 11#8 r)
  | .setBoilerLimit r => some (encodeCoded 12#8 r)
  | .setAlarmThreshold r => some (encodeCoded 13#8 r)
  | .setRate r => some (encodeCoded 14#8 r)
  | .setSearch r => some (encodeCoded 15#8 r)
  | .clearCounts r => some (encodeCoded 16#8 r)
  | .clearResetCause r => some (encodeCoded 17#8 r)
  | .restart r => some (encodeCoded 18#8 r)
  | .characterReceived _ _ => none
  | .gapTimerExpiry _ => none
  | .portQuiet _ => none
  | .transmissionEnd _ => none
  | .replyWindowExpiry _ => none
  | .pollDue _ _ => none
  | .inboundTelegramTake => none
  | .staleExpiry _ => none
  | .holdExpiry _ => none
  | .refreshExpiry _ => none
  | .overrideExpiry _ => none
  | .fogEvaluation => none
  | .heatEvaluation => none
  | .seekStepEnd _ => none
  | .searchStepEnd _ => none
  | .seatStepEnd _ => none
  | .settleEnd _ => none
  | .closedAssert _ => none
  | .closedRelease _ => none
  | .manAssert _ => none
  | .manRelease _ => none
  | .dfltAssert _ => none
  | .dfltRelease _ => none
  | .faultClearPulseEnd _ => none
  | .valveLinesPlaced => none
  | .cueFrame => none
  | .powerOn => none
  | .lineReset => none
  | .workStart _ => none

end Sys2Proof
end

