-- ==== Sys2Proof/Config.lean ====
section
/-! DEFINITION. What the spec leaves open for every run: one free value, without a body. -/

namespace Sys2Proof

/-- The order in which the part takes two things that come together, where the spec says that
either may be taken first and one step of the model holds both (R172), or where several timed
events of the part are due at the same moment and the part runs by itself (log 5).
It is read at the running number of such choices, `State.races`. It has no body: nothing is known
of its values, so a statement holds whatever the order. -/
opaque Config.raceOrder : Nat → Nat

end Sys2Proof
end

