-- ==== Sys2Proof/Machine/Blocks.lean ====
section
/-! DEFINITION. The state of each block of the part (00, Block overview), as plain data. Quantities
that the manual counts with are natural numbers or integers; bytes on the line are bit vectors.
Fields that a write may store unchecked (R41, R127, R160, R178) hold their code as it was written. -/

namespace Sys2Proof.Machine

/-! ### Time

The part's clock counts periods of its 16.000 MHz reference, which R10 divides by n + 1 into the sample
clock of a port; one microsecond is 16 periods (log 1). -/

/-- Periods of the reference in a number of milliseconds. -/
def millis (n : Nat) : Nat := 16000 * n

/-- Periods of the reference in a number of seconds. -/
def seconds (n : Nat) : Nat := 16000000 * n

/-- R40: a moment as PTW reckons it, in whole milliseconds, rounded down (log 36). -/
def toMillis (moment : Nat) : Nat := moment / 16000

/-! ### The Point Line -/

/-- A telegram without its check (R3, R5): the body holds 0 to 40 bytes. -/
structure Telegram where
  dst  : Byte
  src  : Byte
  kind : Byte
  body : List Byte
deriving DecidableEq, Repr

/-- Receiver state (1.5). ASSEMBLE holds the data bytes taken so far, the destination first. -/
inductive Receiver where
  | hunt
  | assemble (got : List Byte)
deriving DecidableEq, Repr

/-- The counts and the overrun flag that READ_STATUS reports for a port (R16, R20). -/
structure Counts where
  framing        : Nat
  truncated      : Nat
  length         : Nat
  gap            : Nat
  check          : Nat
  overrun        : Nat
  requestOverrun : Nat
  unroutable     : Nat
  relayDrop      : Nat
  overrunFlag    : Bool
deriving DecidableEq, Repr

/-- Why a telegram was handed to a transmitter: the candidates of R34 and R38. -/
inductive SendKind where
  | poll | command | levels | relay | reply | notice | relayUp
deriving DecidableEq, Repr

/-- A transmission in progress (R11): what is sent, the eleven-bit characters on the line (R1), when the
start bit of the first begins, the divisor that the whole of it goes out at (R17, R18), and when the
stop bit of the last one ends. -/
structure Sending where
  telegram : Telegram
  kind     : SendKind
  chars    : List (BitVec 11)
  beginAt  : Nat
  divisor  : Nat
  endAt    : Nat
deriving DecidableEq, Repr

/-- What all three line ports hold. `lastEnd` is the end of the last character taken, of the last
own transmission on a field port, or of the last reset, whichever came last (R12, R14). `lookFrom` is
from when the receiver looks for the next start bit: the ninth sample of the last stop bit (R2), or the
end of an own transmission on a field port, a new divisor or a reset. -/
structure Line where
  divisor  : Nat
  receiver : Receiver
  lastEnd  : Nat
  lookFrom : Nat
  sending  : Option Sending
  counts   : Counts
deriving DecidableEq, Repr

/-! ### Segment traffic -/

/-- State of a polled station (2.2), in the manual's order. -/
inductive StationState where
  | unpolled | answering | silent
deriving DecidableEq, Repr

/-- One slot of a poll list (2.2). Station 0 is an empty slot. -/
structure PollEntry where
  station  : Nat
  interval : Nat
  state    : StationState
  misses   : Nat
  lastPoll : Option Nat
deriving DecidableEq, Repr

/-- An open reply window (2.3). `entryGone` says that a write of a poll entry has taken the awaited
station out of its slot since the window opened; its outcome then changes no entry (R27). -/
structure Window where
  awaited   : Option Byte
  byPoll    : Bool
  entryGone : Bool
  expiry    : Nat
deriving DecidableEq, Repr

/-- The note that goes with a field telegram into the inbound queue (R30). -/
inductive ReplyNote where
  | notInWindow | inPollWindow | inRelayWindow
deriving DecidableEq, Repr

/-- One place of the inbound queue (R20). -/
structure Inbound where
  telegram : Telegram
  port     : Port
  note     : ReplyNote
deriving DecidableEq, Repr

/-- A field port with its scheduler (SSP or SSB), its reply window and its relay-down queue. -/
structure FieldPort where
  line             : Line
  newDivisor       : Option Nat
  quiet            : Bool
  polls            : Vector PollEntry 32
  window           : Option Window
  windowLength     : Nat
  forwardUnmatched : Bool
  relayDown        : List Telegram
  nonPoll          : Nat
deriving DecidableEq, Repr

/-- The supervisor line port with its rate list and search (R17, R18). -/
structure SupervisorPort where
  line        : Line
  rateList    : Vector Nat 4
  index       : Fin 4
  search      : Bool
  fails       : Nat
  rateAtReply : Bool
deriving DecidableEq, Repr

/-- What the telegram processor holds beside the field ports, and the bowl scheduler's last LEVELS
block sent (R20, R26, R36). -/
structure Traffic where
  inbound   : List Inbound
  relayUp   : List Telegram
  lastBlock : Fin 16
deriving DecidableEq, Repr

/-! ### Points -/

/-- Watch state of an input point, in the manual's order (3.1). -/
inductive Watch where
  | unseen | live | stale | lost
deriving DecidableEq, Repr

/-- Limit state of an input point, in the manual's order (3.1). -/
inductive Limit where
  | normal | low | high
deriving DecidableEq, Repr

/-- Configured fields of a point record (3.1), in the order of WRITE_ENTRY. Direction is 0 INPUT,
1 OUTPUT; the role is its code of 11.2; intervals are in seconds. -/
structure PointConfig where
  inUse        : Bool
  direction    : Nat
  station      : Nat
  channel      : Nat
  role         : Nat
  spanLow      : Int
  spanHigh     : Int
  limitLow     : Int
  limitHigh    : Int
  deadband     : Nat
  staleAfter   : Nat
  holdTime     : Nat
  fallback     : Int
  forward      : Nat
  overrideTime : Nat
  refresh      : Nat
deriving DecidableEq, Repr

/-- Runtime fields of a point record (3.1). The owner is OVERRIDE exactly while `overrideAt` holds
the override expiry. `staleSince` is when the point became STALE (R50). The four moments are in
milliseconds (R40). -/
structure PointRuntime where
  raw         : Option Int
  seen        : Int
  watch       : Watch
  limit       : Limit
  clamped     : Bool
  lastArrival : Option Nat
  staleSince  : Option Nat
  overrideAt  : Option Nat
  autoValue   : Option Int
  toSend      : Option Int
  lastSent    : Option Int
  lastSending : Option Nat
  pendingFlag : Bool
deriving DecidableEq, Repr

/-- One of the 256 point records (R41). -/
structure Point where
  config  : PointConfig
  runtime : PointRuntime
deriving DecidableEq, Repr

/-- The point table and watch, with the pending output list, oldest first (R53). -/
structure PointTable where
  points     : Vector Point 256
  pendingOut : List (Fin 256)
deriving DecidableEq, Repr

/-! ### Fog prevention -/

/-- State of a fog zone; its position is its code (4.4). -/
inductive ZoneState where
  | unknown | clear | watch | act | fog
deriving DecidableEq, Repr

/-- The record of one fog zone (R71, R75). -/
structure FogZone where
  state       : ZoneState
  degraded    : Bool
  lowDew      : Bool
  airT        : Int
  rh          : Int
  iceT        : Int
  satPressure : Nat
  pressure    : Nat
  dewPoint    : Int
  margin      : Int
  demand      : Nat
deriving DecidableEq, Repr

/-- The profile fields in force in FCU (R72). -/
structure FogFields where
  warn       : Int
  act        : Int
  fog        : Int
  hysteresis : Int
  actStage   : Nat
  stageCap   : Nat
  blindStage : Nat
deriving DecidableEq, Repr

/-- The fog computation unit. `lastChange` none is an expired time of the last change of S. -/
structure Fcu where
  knots      : Vector Nat 41
  valid      : Bool
  dwell      : Nat
  fields     : FogFields
  zones      : Vector FogZone 4
  stage      : Nat
  demand     : Nat
  effective  : Nat
  starved    : Bool
  lastChange : Option Nat
  fan        : Option Nat
  nextEval   : Nat
deriving DecidableEq, Repr

/-! ### Heat recovery -/

/-- A stand zone record of the heat plant table: g_z and max_z (R85). -/
structure StandZone where
  gain    : Nat
  maxHeat : Nat
deriving DecidableEq, Repr

/-- A lighting load entry: a stand zone or NONE, and a weight (R86). -/
structure LoadEntry where
  zone   : Option (Fin 8)
  weight : Nat
deriving DecidableEq, Repr

/-- Loop status of a result, in the manual's order (R101). -/
inductive LoopStatus where
  | complete | degraded | unassigned
deriving DecidableEq, Repr

/-- The part of an allocation result for one class, with the target of its valve (R101). -/
structure ClassResult where
  demand    : Nat
  inService : Bool
  grant     : Nat
  topUp     : Nat
  target    : Nat
deriving DecidableEq, Repr

/-- The part of an allocation result for one stand zone (R101). -/
structure ZoneResult where
  takesPart : Bool
  degraded  : Bool
  gain      : Nat
  demand    : Nat
  grant     : Nat
  output    : Nat
deriving DecidableEq, Repr

/-- The allocation result that HAU publishes (R101). -/
structure AllocationResult where
  heat             : Nat
  clamped          : Bool
  loop             : LoopStatus
  budget           : Nat
  level            : Nat
  boilerCommand    : Nat
  boilerCap        : Nat
  rejected         : Nat
  short            : Bool
  call             : Bool
  subfloorDegraded : Bool
  classes          : Vector ClassResult 4
  zones            : Vector ZoneResult 8
deriving DecidableEq, Repr

/-- The heat allocation unit. -/
structure Hau where
  k          : Nat
  qStage     : Nat
  boilerCap  : Nat
  caps       : Vector Nat 4
  zones      : Vector StandZone 8
  loads      : Vector LoadEntry 256
  budget     : Nat
  first      : Bool
  call       : Bool
  result     : AllocationResult
  prevBoiler : Nat
  nextEval   : Nat
deriving DecidableEq, Repr

/-! ### Valve drives -/

/-- Configuration record of a valve channel (6.1). -/
structure ValveConfig where
  travel   : Nat
  period   : Nat
  settle   : Nat
  seat     : Nat
  autoHome : Bool
  notify   : Bool
deriving DecidableEq, Repr

/-- Where a home run stands (R117): searching, finishing the search step during which CLOSED
asserted, or with this many seat steps still to send. -/
inductive HomePhase where
  | search | searchEnding | seat (left : Nat)
deriving DecidableEq, Repr

/-- Channel state, in the manual's order (6.2). -/
inductive ValveState where
  | unhomed | homing (phase : HomePhase) | ready | seeking | settling | manual | fault
deriving DecidableEq, Repr

/-- The pending slot of a channel (6.3). -/
inductive Slot where
  | empty | target (steps : Nat) | home
deriving DecidableEq, Repr

/-- Fault cause, in the manual's order. -/
inductive FaultCause where
  | none | driveFault | homeNotFound
deriving DecidableEq, Repr

/-- One valve channel. `toOpen` is the direction of motion and the DIR line; `clearing` is the
clearing flag and the DRST line; `stepEnd` is when the step or the settle time in progress ends. -/
structure Valve where
  config      : ValveConfig
  state       : ValveState
  position    : Nat
  target      : Nat
  slot        : Slot
  toOpen      : Bool
  remaining   : Nat
  searchCount : Nat
  cause       : FaultCause
  clearing    : Bool
  stepEnd     : Nat
  pulseEnd    : Nat
  closed      : Bool
  man         : Bool
  dflt        : Bool
deriving DecidableEq, Repr

/-- The valve drive unit; whether the channels have been placed by their lines after power-on, and
when that is due (R125). -/
structure Vdu where
  valves      : Vector Valve 4
  linesPlaced : Bool
  linesAt     : Nat
deriving DecidableEq, Repr

/-! ### Lighting cues -/

/-- A cue record (7.1), in the order of WRITE_ENTRY, each field as written. -/
structure CueRecord where
  next       : Nat
  holdAfter  : Nat
  notify     : Nat
  form       : Nat
  start      : Nat
  width      : Nat
  repeats    : Nat
  stride     : Nat
  base       : Nat
  spanIndex  : Nat
  spanCount  : Nat
  source     : Nat
  sceneIndex : Nat
  flat       : Nat
  parkEnable : Nat
  parkValue  : Nat
  fade       : Nat
  update     : Nat
  step       : Int
deriving DecidableEq, Repr

/-- A span entry (R129). -/
structure SpanEntry where
  offset : Nat
  width  : Nat
deriving DecidableEq, Repr

/-- State of a playback, in the manual's order (7.5). -/
inductive PlayState where
  | idle | fading | held | fault
deriving DecidableEq, Repr

/-- The two playbacks: SHOW 0, HOUSE 1. -/
inductive PlaybackId where
  | showPlayback | housePlayback
deriving DecidableEq, Repr

/-- The fade record (R134): for each channel in the fade its L0 and L1; the length K and the count
k in frames. A cleared record holds no channel and zeros. -/
structure Fade where
  channels : Vector (Option (Nat × Nat)) 256
  length   : Nat
  count    : Nat
deriving DecidableEq, Repr

/-- A playback (7.5). -/
structure Playback where
  state   : PlayState
  pointer : Fin 256
  current : Option (Fin 256)
  levels  : Vector Nat 256
  fade    : Fade
deriving DecidableEq, Repr

/-- The cue engine. The span list and scene memories list the entries that are not zero, by rising
address. The last-sent copies of the sixteen blocks are held as 256 levels. -/
structure CueEngine where
  cues         : Vector CueRecord 256
  spans        : List (Nat × SpanEntry)
  scenes       : List (Nat × BitVec 8)
  playbackShow : Playback
  playbackHouse : Playback
  levelMap     : Vector Nat 256
  lastSent     : Vector Nat 256
  due          : Vector Bool 16
  refreshPtr   : Fin 16
  refreshCount : Nat
  nextFrame    : Nat
deriving DecidableEq, Repr

/-! ### Event profiles -/

/-- A profile record (8.1), in the order of WRITE_ENTRY, the valid flag last. -/
structure Profile where
  subfloorSetpoint : Int
  subfloorHeat     : Nat
  warn             : Int
  act              : Int
  fog              : Int
  hysteresis       : Int
  actStage         : Nat
  stageCap         : Nat
  blindStage       : Nat
  occupied         : Nat
  unoccupied       : Nat
  mask             : Nat
  boilerLevel      : Nat
  meltEnable       : Nat
  meltHeat         : Nat
  startCue         : Nat
  autoGo           : Nat
  valid            : Bool
deriving DecidableEq, Repr

/-- The profile table. -/
structure Prf where
  profiles : Vector Profile 8
  active   : Option (Fin 8)
  limit    : Nat
deriving DecidableEq, Repr

/-! ### Trend capture -/

/-- Quality of a sample; its position is its code (09). -/
inductive Quality where
  | live | stale | lost | clamped | degraded
deriving DecidableEq, Repr

/-- One sample of trend memory. -/
structure Sample where
  value   : Int
  quality : Quality
deriving DecidableEq, Repr

/-- A capture descriptor (9.1, R178), each field as written. -/
structure Descriptor where
  sourceKind    : Nat
  sourceNumber  : Nat
  base          : Nat
  length        : Nat
  mode          : Nat
  count         : Nat
  pointerMode   : Nat
  stopOnAlarm   : Nat
  triggerKind   : Nat
  triggerNumber : Nat
  notify        : Nat
deriving DecidableEq, Repr

/-- State of a capture channel, in the manual's order. -/
inductive CaptureState where
  | off | armed | running | ended
deriving DecidableEq, Repr

/-- End status; its position is its code (09). -/
inductive EndStatus where
  | none | full | stoppedByAlarm | triggeredDone | sourceChanged | reset | disabled
deriving DecidableEq, Repr

/-- One capture channel. -/
structure CaptureChannel where
  descriptor : Descriptor
  state      : CaptureState
  pointer    : Nat
  remaining  : Nat
  stored     : Nat
  triggerAt  : Option Nat
  status     : EndStatus
deriving DecidableEq, Repr

/-- The trend capture unit. The trend memory lists the samples that are not (0, LIVE), by rising
place. -/
structure Tcu where
  memory   : List (Nat × Sample)
  channels : Vector CaptureChannel 8
deriving DecidableEq, Repr

/-! ### Notices and management -/

/-- The notice sources; their position is their number (10.1). -/
inductive Source where
  | start | pointLimit | pointStale | pointLost | stationSilent | override | captureEnd | fogState
  | fogStarved | heatShort | boilerTopup | valveDone | valveFault | cueDone | cueFault
  | profileChange | portError | tableInvalid
deriving DecidableEq, Repr

/-- A pending record (R171). -/
structure NoticeRecord where
  count   : Nat
  subject : Nat
  detail  : Int
deriving DecidableEq, Repr

/-- The notice unit, with the ALM line (R173). -/
structure Ntu where
  levels    : Vector Nat 18
  records   : Vector NoticeRecord 18
  threshold : Nat
  alm       : Bool
deriving DecidableEq, Repr

/-- The CLEAR_VALVE_FAULT that waits for the end of its pulse (R123, R176). -/
structure InHand where
  source  : Byte
  tag     : Byte
  channel : Fin 4
deriving DecidableEq, Repr

/-- The management responder. `restarting` says that the REPLY in the slot is RESTART's (R184). -/
structure Mgr where
  queue          : List Telegram
  inHand         : Option InHand
  slot           : Option Telegram
  restarting     : Bool
  power          : Bool
  lineFlag       : Bool
  supervisorFlag : Bool
  address        : Nat
deriving DecidableEq, Repr

/-- Whether the part works, or is held by a power-on or a line reset (R182). -/
inductive Hold where
  | working | powerOn | lineReset
deriving DecidableEq, Repr

end Sys2Proof.Machine
end

