-- ==== Sys2Proof/Machine/PowerOn.lean ====
section
/-! DEFINITION. The value of each block after power-on, by the reset rule of its chapter. -/

namespace Sys2Proof.Machine

/-- Counts and flag all zero and clear (R19, R39). -/
def Counts.zero : Counts := ⟨0, 0, 0, 0, 0, 0, 0, 0, 0, false⟩

/-- A port in HUNT with its transmitter IDLE, at the given divisor (R19). -/
def Line.powerOn (divisor : Nat) : Line := ⟨divisor, .hunt, 0, 0, none, .zero⟩

/-- An empty poll slot (R39). -/
def PollEntry.vacant : PollEntry := ⟨0, 0, .unpolled, 0, none⟩

/-- A field port after power-on (R19, R39): divisor 3, window length 5 ms, forward-unmatched off. -/
def FieldPort.powerOn : FieldPort :=
  { line := .powerOn 3, newDivisor := none, quiet := false, polls := .replicate 32 .vacant,
    window := none, windowLength := 5, forwardUnmatched := false, relayDown := [], nonPoll := 0 }

/-- The rate list after power-on and line reset (R19). -/
def defaultRates : Vector Nat 4 := #v[7, 3, 25, 103]

/-- The supervisor port after power-on (R19). -/
def SupervisorPort.powerOn : SupervisorPort :=
  { line := .powerOn 7, rateList := defaultRates, index := 0, search := true, fails := 0,
    rateAtReply := false }

/-- Queues empty, last LEVELS block sent 15 (R39). -/
def Traffic.cleared : Traffic := ⟨[], [], 15⟩

/-- A record not in use with every configured field zero (R60). -/
def PointConfig.blank : PointConfig :=
  ⟨false, 0, 0, 0, 0, 0, 0, 0, 0, 0, 0, 0, 0, 0, 0, 0⟩

/-- The runtime that a rewrite sets (R44), for the given fallback value. -/
def PointRuntime.fresh (fallback : Int) : PointRuntime :=
  { raw := none, seen := fallback, watch := .unseen, limit := .normal, clamped := false,
    lastArrival := none, staleSince := none, overrideAt := none, autoValue := none, toSend := none,
    lastSent := none, lastSending := none, pendingFlag := false }

/-- The point table after power-on (R60). -/
def PointTable.powerOn : PointTable := ⟨.replicate 256 ⟨.blank, .fresh 0⟩, []⟩

/-- The profile fields that FCU works from while no profile is active (R72). -/
def FogFields.noProfile : FogFields := ⟨300, 150, 50, 25, 2, 4, 1⟩

/-- A fog zone after any reset (R84). -/
def FogZone.fresh : FogZone := ⟨.unknown, false, false, 0, 0, 0, 0, 0, 0, 0, 0⟩

/-- FCU's working state after any reset, its next evaluation at the given time (R84). -/
def Fcu.restarted (f : Fcu) (nextEval : Nat) : Fcu :=
  { f with fields := .noProfile, zones := .replicate 4 .fresh, stage := 0, demand := 0,
           effective := 0, starved := false, lastChange := none, fan := none, nextEval := nextEval }

/-- FCU after power-on (R83, R84). -/
def Fcu.powerOn : Fcu :=
  { knots := .replicate 41 0, valid := false, dwell := 60, fields := .noProfile,
    zones := .replicate 4 .fresh, stage := 0, demand := 0, effective := 0, starved := false,
    lastChange := none, fan := none, nextEval := seconds 10 }

/-- The result that stands after any reset (R109). -/
def AllocationResult.zero : AllocationResult :=
  { heat := 0, clamped := false, loop := .unassigned, budget := 0, level := 0, boilerCommand := 0,
    boilerCap := 0, rejected := 0, short := false, call := true, subfloorDegraded := false,
    classes := .replicate 4 ⟨0, false, 0, 0, 0⟩, zones := .replicate 8 ⟨false, false, 0, 0, 0, 0⟩ }

/-- HAU's working state after any reset, its next evaluation at the given time (R109). -/
def Hau.restarted (h : Hau) (nextEval : Nat) : Hau :=
  { h with budget := 0, first := true, call := true, result := .zero, prevBoiler := 0,
           nextEval := nextEval }

/-- HAU after power-on (R108, R109). -/
def Hau.powerOn : Hau :=
  { k := 4000, qStage := 1, boilerCap := 0, caps := .replicate 4 0, zones := .replicate 8 ⟨0, 0⟩,
    loads := .replicate 256 ⟨some 0, 0⟩, budget := 0, first := true, call := true, result := .zero,
    prevBoiler := 0, nextEval := seconds 2 }

/-- A valve channel after power-on with its input lines at these levels (R125). -/
def Valve.powerOn (closed man dflt : Bool) : Valve :=
  { config := ⟨16, 20, 0, 0, false, false⟩, state := .unhomed, position := 0, target := 0,
    slot := .empty, toOpen := false, remaining := 0, searchCount := 0, cause := .none,
    clearing := false, stepEnd := 0, pulseEnd := 0, closed := closed, man := man, dflt := dflt }

/-- VDU after power-on with no input line asserted (R125). -/
def Vdu.powerOn : Vdu := ⟨.replicate 4 (.powerOn false false false), false, 0⟩

/-- A cue record of all zeros (R127, R148). -/
def CueRecord.zero : CueRecord := ⟨0, 0, 0, 0, 0, 0, 0, 0, 0, 0, 0, 0, 0, 0, 0, 0, 0, 0, 0⟩

/-- A span entry of all zeros, which an unlisted address of span list memory reads as (R129, R148). -/
def SpanEntry.zero : SpanEntry := ⟨0, 0⟩

/-- A cleared fade record. -/
def Fade.cleared : Fade := ⟨.replicate 256 none, 0, 0⟩

/-- A playback IDLE with this run pointer and every own level 0 (R138, R148). -/
def Playback.idleAt (pointer : Fin 256) : Playback :=
  ⟨.idle, pointer, none, .replicate 256 0, .cleared⟩

/-- CUE after power-on (R148). -/
def CueEngine.powerOn : CueEngine :=
  { cues := .replicate 256 .zero, spans := [], scenes := [], playbackShow := .idleAt 0,
    playbackHouse := .idleAt 0, levelMap := .replicate 256 0, lastSent := .replicate 256 0,
    due := .replicate 16 true, refreshPtr := 0, refreshCount := 0, nextFrame := millis 25 }

/-- A profile with every field 0 and the valid flag clear (R159). -/
def Profile.zero : Profile := ⟨0, 0, 0, 0, 0, 0, 0, 0, 0, 0, 0, 0, 0, 0, 0, 0, 0, false⟩

/-- PRF after power-on (R159). -/
def Prf.powerOn : Prf := ⟨.replicate 8 .zero, none, 2⟩

/-- The sample (0, LIVE), which an unlisted place of trend memory reads as (R169). -/
def Sample.zero : Sample := ⟨0, .live⟩

/-- A descriptor with every field 0 (R169). -/
def Descriptor.zero : Descriptor := ⟨0, 0, 0, 0, 0, 0, 0, 0, 0, 0, 0⟩

/-- TCU after power-on (R169). -/
def Tcu.powerOn : Tcu := ⟨[], .replicate 8 ⟨.zero, .off, 0, 0, 0, none, .none⟩⟩

/-- A cleared pending record. -/
def NoticeRecord.cleared : NoticeRecord := ⟨0, 0, 0⟩

/-- NTU after power-on, before START is raised as work starts (R175, R182). -/
def Ntu.powerOn : Ntu :=
  { levels := (Vector.replicate 18 3).set 0 7, records := .replicate 18 .cleared, threshold := 4,
    alm := false }

/-- MGR after power-on, before the straps are read as work starts (R181, R185; log 8). -/
def Mgr.powerOn : Mgr :=
  { queue := [], inHand := none, slot := none, restarting := false, power := true,
    lineFlag := false, supervisorFlag := false, address := 126 }

end Sys2Proof.Machine
end

