-- ==== Sys2Proof/Machine/State.lean ====
section
/-! DEFINITION. The state of the part and the reasons to stop. -/

namespace Sys2Proof.Machine

/-- The whole part. `now` is the model's clock in periods of the 16 MHz reference (log 1), `races` counts the readings
of the free value `Config.raceOrder` (log 5), and `pending` is the queue of commands that wait,
first in, first out; every other field is a block of the part. -/
structure State where
  now        : Nat
  hold       : Hold
  plant      : FieldPort
  bowl       : FieldPort
  supervisor : SupervisorPort
  traffic    : Traffic
  ptw        : PointTable
  fcu        : Fcu
  hau        : Hau
  vdu        : Vdu
  cue        : CueEngine
  prf        : Prf
  tcu        : Tcu
  ntu        : Ntu
  mgr        : Mgr
  races      : Nat
  pending    : List Instr
deriving DecidableEq, Repr

/-- Reasons for which the part stops: none. No rule of the spec ends the part; what goes wrong on
a line, at a point or in a valve is an effect on the state (log 25). Nothing raises a fault. -/
inductive Fault where
deriving DecidableEq, Repr

/-- Reasons for which a command has no meaning. -/
inductive Refusal where
  /-- Raised by an arm of `exec` whose command has no meaning yet; safe, since the run stops. -/
  | notModelled (mnemonic : String)
deriving DecidableEq, Repr

/-- The part right after power-on: held, with the power-on values of every chapter in force (R182),
until WORK_START (log 7). -/
def State.reset : State :=
  { now := 0, hold := .powerOn, plant := .powerOn, bowl := .powerOn, supervisor := .powerOn,
    traffic := .cleared, ptw := .powerOn, fcu := .powerOn, hau := .powerOn, vdu := .powerOn,
    cue := .powerOn, prf := .powerOn, tcu := .powerOn, ntu := .powerOn, mgr := .powerOn, races := 0,
    pending := [] }

/-! ### One setter for each block: what an operation on a block leaves alone is everything else -/

/-- The state with another clock. -/
def State.setNow (s : State) (x : Nat) : State := { s with now := x }
/-- The state with another hold. -/
def State.setHold (s : State) (x : Hold) : State := { s with hold := x }
/-- The state with another plant port. -/
def State.setPlant (s : State) (x : FieldPort) : State := { s with plant := x }
/-- The state with another bowl port. -/
def State.setBowl (s : State) (x : FieldPort) : State := { s with bowl := x }
/-- The state with another supervisor port. -/
def State.setSupervisor (s : State) (x : SupervisorPort) : State := { s with supervisor := x }
/-- The state with other queues of the telegram processor. -/
def State.setTraffic (s : State) (x : Traffic) : State := { s with traffic := x }
/-- The state with another point table. -/
def State.setPtw (s : State) (x : PointTable) : State := { s with ptw := x }
/-- The state with another fog computation unit. -/
def State.setFcu (s : State) (x : Fcu) : State := { s with fcu := x }
/-- The state with another heat allocation unit. -/
def State.setHau (s : State) (x : Hau) : State := { s with hau := x }
/-- The state with another valve drive unit. -/
def State.setVdu (s : State) (x : Vdu) : State := { s with vdu := x }
/-- The state with another cue engine. -/
def State.setCue (s : State) (x : CueEngine) : State := { s with cue := x }
/-- The state with another profile table. -/
def State.setPrf (s : State) (x : Prf) : State := { s with prf := x }
/-- The state with another trend capture unit. -/
def State.setTcu (s : State) (x : Tcu) : State := { s with tcu := x }
/-- The state with another notice unit. -/
def State.setNtu (s : State) (x : Ntu) : State := { s with ntu := x }
/-- The state with another management responder. -/
def State.setMgr (s : State) (x : Mgr) : State := { s with mgr := x }
/-- The state with another count of races. -/
def State.setRaces (s : State) (x : Nat) : State := { s with races := x }
/-- The state with another queue of commands. -/
def State.setPending (s : State) (x : List Instr) : State := { s with pending := x }

/-- The port of a segment. -/
def State.field (s : State) : Segment → FieldPort
  | .plant => s.plant
  | .bowl => s.bowl

/-- The state with another port at a segment. -/
def State.setField (s : State) (g : Segment) (x : FieldPort) : State :=
  match g with
  | .plant => s.setPlant x
  | .bowl => s.setBowl x

/-- The line part of a port. -/
def State.line (s : State) : Port → Line
  | .plant => s.plant.line
  | .bowl => s.bowl.line
  | .supervisor => s.supervisor.line

/-- The state with another line part at a port. -/
def State.setLine (s : State) (p : Port) (x : Line) : State :=
  match p with
  | .plant => s.setPlant { s.plant with line := x }
  | .bowl => s.setBowl { s.bowl with line := x }
  | .supervisor => s.setSupervisor { s.supervisor with line := x }

end Sys2Proof.Machine
end

