-- ==== Sys2Proof/Machine/Memory.lean ====
section
/-! DEFINITION. The part's addressed memories: span list memory, scene memory and trend memory.
A memory is a list of (address, value) pairs with addresses strictly rising and no value equal to
what an unlisted address reads as, its value after power-on (R148, R169). -/

namespace Sys2Proof.Machine

/-- The value at an address; an unlisted address reads as `zero`. -/
def Memory.read {α : Type} (zero : α) (m : List (Nat × α)) (a : Nat) : α :=
  match m with
  | [] => zero
  | (b, v) :: rest => if b = a then v else Memory.read zero rest a

/-- The memory with `v` at the front under address `a`, unless `v` is what an unlisted address
reads as. -/
def Memory.place {α : Type} [DecidableEq α] (zero : α) (a : Nat) (v : α) (m : List (Nat × α)) :
    List (Nat × α) :=
  if v = zero then m else (a, v) :: m

/-- The memory after storing `v` at address `a`, in the canonical form again. -/
def Memory.write {α : Type} [DecidableEq α] (zero : α) (m : List (Nat × α)) (a : Nat) (v : α) :
    List (Nat × α) :=
  match m with
  | [] => Memory.place zero a v []
  | (b, w) :: rest =>
    if a < b then Memory.place zero a v ((b, w) :: rest)
    else if a = b then Memory.place zero a v rest
    else (b, w) :: Memory.write zero rest a v

/-- The canonical form of a memory of `size` places: addresses below the size and strictly rising,
no value equal to what an unlisted address reads as. -/
abbrev Memory.wf {α : Type} [DecidableEq α] (size : Nat) (zero : α) (m : List (Nat × α)) : Prop :=
  m.Pairwise (fun x y => x.1 < y.1) ∧ ∀ x ∈ m, x.1 < size ∧ x.2 ≠ zero

/-! ### The three memories -/

/-- The span entry at an address 0 to 511 (R129). -/
def CueEngine.span (c : CueEngine) (a : Nat) : SpanEntry := Memory.read .zero c.spans a

/-- The scene level at an address 0 to 4095 (R129). -/
def CueEngine.scene (c : CueEngine) (a : Nat) : Nat := (Memory.read 0#8 c.scenes a).toNat

/-- The sample at a place 0 to 4095 of trend memory. -/
def Tcu.sampleAt (t : Tcu) (place : Nat) : Sample := Memory.read .zero t.memory place

end Sys2Proof.Machine
end

