-- ==== Sys2Proof/Machine/Operands.lean ====
section
/-! DEFINITION. Bytes and fields (00, Line order; 11.2): how numbers are laid out in telegram bodies,
how the operands of a request are cut into fields, and how the fields of a reply are written. -/

namespace Sys2Proof.Machine

/-- The low eight bits of a natural number as a byte. -/
def byteOf (n : Nat) : Byte := BitVec.ofNat 8 n

/-- A number 0 to 65535 in two bytes, high byte first. -/
def bytes16 (n : Nat) : List Byte := [byteOf (n / 256), byteOf n]

/-- The 16-bit code of a signed value. -/
def codeOf (v : Int) : Nat := (v % 65536).toNat

/-- A signed value in two bytes, high byte first. -/
def bytesSigned (v : Int) : List Byte := bytes16 (codeOf v)

/-- The signed value of a 16-bit code. -/
def signedOf (n : Nat) : Int := if n < 32768 then (n : Int) else (n : Int) - 65536

/-- The value of two bytes, high byte first. -/
def word16 (hi lo : Byte) : Nat := hi.toNat * 256 + lo.toNat

/-- A flag in a reply: 0 clear, 1 set. -/
def flagCode (b : Bool) : Nat := if b then 1 else 0

/-- How many bytes each field of an operand list occupies (11.2): 1, or 2 for a field that is
signed or whose range passes 255. -/
abbrev Layout := List Nat

/-- The operand bytes cut into the fields of a layout, each as an unsigned code; none when the
operand length is not the layout's. -/
def Layout.parse : Layout → List Byte → Option (List Nat)
  | [], [] => some []
  | [], _ :: _ => none
  | 1 :: widths, b :: rest => (Layout.parse widths rest).map (b.toNat :: ·)
  | 2 :: widths, hi :: lo :: rest => (Layout.parse widths rest).map (word16 hi lo :: ·)
  | _ :: _, _ => none

/-- The bytes of field codes written out by a layout. -/
def Layout.emit : Layout → List Nat → List Byte
  | 1 :: widths, v :: rest => byteOf v :: Layout.emit widths rest
  | 2 :: widths, v :: rest => bytes16 v ++ Layout.emit widths rest
  | _, _ => []

/-! ### The layout of each table's fields, in the order of its owning chapter (11.2) -/

/-- Point record, 3.1. -/
def pointLayout : Layout := [1, 1, 1, 1, 1, 2, 2, 2, 2, 2, 2, 2, 2, 1, 2, 2]
/-- Poll entry, 2.2: station, poll interval. -/
def pollLayout : Layout := [1, 2]
/-- Field port setting: reply window length, forward-unmatched flag. -/
def fieldPortLayout : Layout := [1, 1]
/-- Saturation knot: pressure. -/
def knotLayout : Layout := [2]
/-- Fog configuration: dwell time. -/
def fogLayout : Layout := [2]
/-- Heat plant constants: K, q_stage, boiler capacity. -/
def constantsLayout : Layout := [2, 2, 2]
/-- Class circuit: cap_c. -/
def circuitLayout : Layout := [2]
/-- Stand zone: g_z, max_z. -/
def zoneLayout : Layout := [2, 2]
/-- Lighting load entry: zone, weight. -/
def loadLayout : Layout := [1, 1]
/-- Valve configuration, 6.1. -/
def valveLayout : Layout := [2, 1, 1, 1, 1, 1]
/-- Profile, 8.1, except the valid flag. -/
def profileLayout : Layout := [2, 2, 2, 2, 2, 2, 1, 1, 1, 2, 2, 1, 1, 1, 2, 1, 1]
/-- Cue record, 7.1. -/
def cueLayout : Layout := [1, 1, 1, 1, 1, 2, 1, 1, 1, 2, 1, 1, 2, 1, 1, 1, 1, 1, 2]
/-- Span entry: offset, width. -/
def spanLayout : Layout := [1, 2]
/-- Scene level. -/
def sceneLayout : Layout := [1]
/-- Capture descriptor, R178. -/
def descriptorLayout : Layout := [1, 1, 2, 2, 1, 2, 1, 1, 1, 1, 1]
/-- Notice level. -/
def levelLayout : Layout := [1]

/-! ### Records and their field codes -/

/-- The point configuration that field codes stand for; none unless there are sixteen. -/
def PointConfig.ofFields : List Nat → Option PointConfig
  | [iu, dir, st, ch, role, sl, sh, ll, lh, db, stale, hold, fb, fwd, ov, rf] =>
    some { inUse := iu == 1, direction := dir, station := st, channel := ch, role := role,
           spanLow := signedOf sl, spanHigh := signedOf sh, limitLow := signedOf ll,
           limitHigh := signedOf lh, deadband := db, staleAfter := stale, holdTime := hold,
           fallback := signedOf fb, forward := fwd, overrideTime := ov, refresh := rf }
  | _ => none

/-- The field codes of a point configuration. -/
def PointConfig.fields (c : PointConfig) : List Nat :=
  [flagCode c.inUse, c.direction, c.station, c.channel, c.role, codeOf c.spanLow,
   codeOf c.spanHigh, codeOf c.limitLow, codeOf c.limitHigh, c.deadband, c.staleAfter, c.holdTime,
   codeOf c.fallback, c.forward, c.overrideTime, c.refresh]

/-- The valve configuration that field codes stand for. -/
def ValveConfig.ofFields : List Nat → Option ValveConfig
  | [travel, period, settle, seat, autoHome, notify] =>
    some ⟨travel, period, settle, seat, autoHome == 1, notify == 1⟩
  | _ => none

/-- The field codes of a valve configuration. -/
def ValveConfig.fields (c : ValveConfig) : List Nat :=
  [c.travel, c.period, c.settle, c.seat, flagCode c.autoHome, flagCode c.notify]

/-- The profile that field codes stand for, its valid flag set. -/
def Profile.ofFields : List Nat → Option Profile
  | [ss, sh, w, a, f, h, act, cap, blind, occ, un, mask, level, melt, mh, cue, go] =>
    some { subfloorSetpoint := signedOf ss, subfloorHeat := sh, warn := signedOf w,
           act := signedOf a, fog := signedOf f, hysteresis := (h : Int), actStage := act,
           stageCap := cap, blindStage := blind, occupied := occ, unoccupied := un, mask := mask,
           boilerLevel := level, meltEnable := melt, meltHeat := mh, startCue := cue, autoGo := go,
           valid := true }
  | _ => none

/-- The field codes of a profile. -/
def Profile.fields (p : Profile) : List Nat :=
  [codeOf p.subfloorSetpoint, p.subfloorHeat, codeOf p.warn, codeOf p.act, codeOf p.fog,
   codeOf p.hysteresis, p.actStage, p.stageCap, p.blindStage, p.occupied, p.unoccupied, p.mask,
   p.boilerLevel, p.meltEnable, p.meltHeat, p.startCue, p.autoGo]

/-- The cue record that field codes stand for. -/
def CueRecord.ofFields : List Nat → Option CueRecord
  | [next, hold, notify, form, start, width, repeats, stride, base, si, sc, src, sci, flat, pe, pv,
      fade, update, step] =>
    some ⟨next, hold, notify, form, start, width, repeats, stride, base, si, sc, src, sci, flat, pe,
          pv, fade, update, signedOf step⟩
  | _ => none

/-- The field codes of a cue record. -/
def CueRecord.fields (c : CueRecord) : List Nat :=
  [c.next, c.holdAfter, c.notify, c.form, c.start, c.width, c.repeats, c.stride, c.base,
   c.spanIndex, c.spanCount, c.source, c.sceneIndex, c.flat, c.parkEnable, c.parkValue, c.fade,
   c.update, codeOf c.step]

/-- The capture descriptor that field codes stand for. -/
def Descriptor.ofFields : List Nat → Option Descriptor
  | [sk, sn, base, length, mode, count, pm, stop, tk, tn, notify] =>
    some ⟨sk, sn, base, length, mode, count, pm, stop, tk, tn, notify⟩
  | _ => none

/-- The field codes of a capture descriptor. -/
def Descriptor.fields (d : Descriptor) : List Nat :=
  [d.sourceKind, d.sourceNumber, d.base, d.length, d.mode, d.count, d.pointerMode, d.stopOnAlarm,
   d.triggerKind, d.triggerNumber, d.notify]

/-- The zone of a load entry as its code: 255 for NONE (R178). -/
def LoadEntry.zoneCode (e : LoadEntry) : Nat :=
  match e.zone with
  | some z => z.val
  | none => 255

/-- The zone that a code names: 0 to 7, or NONE for 255; none for any other code. -/
def zoneOfCode (n : Nat) : Option (Option (Fin 8)) :=
  if h : n < 8 then some (some ⟨n, h⟩) else if n = 255 then some none else none

/-- A two-byte field that may be none: 65535 for none (R180). -/
def orNone16 : Option Nat → Nat
  | some n => n
  | none => 65535

/-- A point value that may be none: a byte 0 and zeros, or a byte 1 and the value (R180). -/
def optionalValue : Option Int → List Byte
  | some v => byteOf 1 :: bytesSigned v
  | none => byteOf 0 :: bytesSigned 0

/-- Whole seconds since an event, 65535 for none or for 65535 s and longer (R180). -/
def secondsSince (now : Nat) : Option Nat → Nat
  | some t => min 65535 ((now - t) / 16000000)
  | none => 65535

/-- The same since a moment of PTW's, which is in milliseconds (R40, R180). -/
def secondsSinceMilli (now : Nat) : Option Nat → Nat
  | some t => min 65535 ((toMillis now - t) / 1000)
  | none => 65535

end Sys2Proof.Machine
end

