-- ==== Sys2Proof/Machine/Ops.lean ====
section
/-! DEFINITION. Operations that several blocks share: the clock, vectors of records, the saturating
counters, the error counts of a port and the raising of notices. -/

namespace Sys2Proof.Machine

/-! ### The clock (log 1, log 2) -/

/-- A timed event comes: the clock moves to the moment it is due, if it is not past it (log 2). -/
def State.comesAt (s : State) (due : Nat) : State := s.setNow (max s.now due)

/-- R10: the period of a port's sample clock: the 16.000 MHz reference divided by n + 1. -/
def Line.sampleTime (l : Line) : Nat := l.divisor + 1

/-- R10: one character time at divisor n, 11 bits of 16 samples: 11 × (n + 1) µs. -/
def Line.charTime (l : Line) : Nat := 176 * l.sampleTime

/-! ### Tables -/

/-- The vector of the values of a function. -/
def tabulate {α : Type} (n : Nat) (f : Fin n → α) : Vector α n :=
  ⟨⟨(List.finRange n).map f⟩, by simp⟩

/-- The vector with one element changed by a function. -/
def change {α : Type} {n : Nat} (v : Vector α n) (i : Fin n) (f : α → α) : Vector α n :=
  v.set i (f v[i])

/-- The first index of a vector whose element meets a condition. -/
def firstIndex {α : Type} {n : Nat} (v : Vector α n) (p : α → Bool) : Option (Fin n) :=
  (List.finRange n).find? (fun i => p v[i])

/-- A counter after one more event; it saturates at 65535 (00, Counters). -/
def bump (n : Nat) : Nat := min 65535 (n + 1)

/-- A value clamped into low to high, bounds included. -/
def clampInt (low high v : Int) : Int := max low (min high v)

/-! ### Notices (10.2) -/

/-- The number of a source (10.1). -/
def Source.number : Source → Fin 18
  | .start => 0
  | .pointLimit => 1
  | .pointStale => 2
  | .pointLost => 3
  | .stationSilent => 4
  | .override => 5
  | .captureEnd => 6
  | .fogState => 7
  | .fogStarved => 8
  | .heatShort => 9
  | .boilerTopup => 10
  | .valveDone => 11
  | .valveFault => 12
  | .cueDone => 13
  | .cueFault => 14
  | .profileChange => 15
  | .portError => 16
  | .tableInvalid => 17

/-- R171: a raising of a source at level 0 does nothing; at level 1 to 7 it adds 1 to the count,
up to 255, and replaces subject and detail. -/
def Ntu.raise (n : Ntu) (source : Source) (subject : Nat) (detail : Int) : Ntu :=
  if n.levels[source.number] = 0 then n
  else { n with records := change n.records source.number
                  (fun r => ⟨min 255 (r.count + 1), subject, detail⟩) }

/-- A block raises a notice into NTU. -/
def State.raise (s : State) (source : Source) (subject : Nat) (detail : Int) : State :=
  s.setNtu (s.ntu.raise source subject detail)

/-! ### Error counts of a port (R16) -/

/-- The number of a port (R16). -/
def portNumber : Port → Nat
  | .plant => 0
  | .bowl => 1
  | .supervisor => 2

/-- The number of a segment (R31). -/
def segmentNumber : Segment → Nat
  | .plant => 0
  | .bowl => 1

/-- The kinds of event that R16's detail numbers. -/
inductive PortEvent where
  | framing | truncated | length | gap | check | overrun | requestOverrun | rateStep
deriving DecidableEq, Repr

/-- The detail of PORT_ERROR for an event (R16). -/
def PortEvent.detail : PortEvent → Int
  | .framing => 1
  | .truncated => 2
  | .length => 3
  | .gap => 4
  | .check => 5
  | .overrun => 6
  | .requestOverrun => 7
  | .rateStep => 8

/-- The counts after an event; an overrun also sets the overrun flag (R15, R16). A rate step has
no count of its own. -/
def Counts.add (c : Counts) : PortEvent → Counts
  | .framing => { c with framing := bump c.framing }
  | .truncated => { c with truncated := bump c.truncated }
  | .length => { c with length := bump c.length }
  | .gap => { c with gap := bump c.gap }
  | .check => { c with check := bump c.check }
  | .overrun => { c with overrun := bump c.overrun, overrunFlag := true }
  | .requestOverrun => { c with requestOverrun := bump c.requestOverrun }
  | .rateStep => c

/-- An event at a port is counted and raises PORT_ERROR (R16). -/
def State.portEvent (s : State) (p : Port) (e : PortEvent) : State :=
  let l := s.line p
  (s.setLine p { l with counts := l.counts.add e }).raise .portError (portNumber p) e.detail

/-- One more relay drop charged to a port (R20). -/
def State.countRelayDrop (s : State) (p : Port) : State :=
  let l := s.line p
  s.setLine p { l with counts := { l.counts with relayDrop := bump l.counts.relayDrop } }

/-- One more unroutable telegram at the supervisor link (R20). -/
def State.countUnroutable (s : State) : State :=
  let l := s.line .supervisor
  s.setLine .supervisor { l with counts := { l.counts with unroutable := bump l.counts.unroutable } }

/-! ### Races (log 5) -/

/-- The next value of the free order of things that come together, and the state that has read it. -/
def State.race (s : State) : Nat × State := (Config.raceOrder s.races, s.setRaces (s.races + 1))

end Sys2Proof.Machine
end

