-- ==== Sys2Proof/Machine/Flags.lean ====
section
/-! DEFINITION. The part's flags and lines that are computed from its state: the limit state of a
point, the alarm conditions and ALM, the output lines of a valve channel, TXE. -/

namespace Sys2Proof.Machine

/-! ### Limit state (R48) -/

/-- R48: the limit state after an arrival with clamped value v; the rows of its table from the top.
The bounds with the deadband are formed exactly. -/
def PointConfig.limitAfter (c : PointConfig) (before : Limit) (v : Int) : Limit :=
  match before with
  | .normal => if v > c.limitHigh then .high else if v < c.limitLow then .low else .normal
  | .high =>
    if v < c.limitLow then .low else if v ≤ c.limitHigh - c.deadband then .normal else .high
  | .low =>
    if v > c.limitHigh then .high else if v ≥ c.limitLow + c.deadband then .normal else .low

/-- R48: POINT_LIMIT is raised on an entry into LOW (detail 1) or HIGH (detail 2), and not else. -/
def limitDetail (before after : Limit) : Option Int :=
  if before = after then none
  else match after with
    | .normal => none
    | .low => some 1
    | .high => some 2

/-! ### Alarm conditions and ALM (R173) -/

/-- A point in use that stands in HIGH or LOW. -/
def Point.limitAlarm (p : Point) : Bool := p.config.inUse && p.runtime.limit != .normal

/-- A point in use that is LOST. -/
def Point.lostAlarm (p : Point) : Bool := p.config.inUse && p.runtime.watch == .lost

/-- The level of a source reaches the alarm threshold. -/
def Ntu.reaches (n : Ntu) (source : Source) : Bool := n.threshold ≤ n.levels[source.number]

/-- R173: some alarm condition is active whose source level is at or above the threshold. -/
def State.alarm (s : State) : Bool :=
  (s.ntu.reaches .pointLimit && s.ptw.points.toList.any Point.limitAlarm)
  || (s.ntu.reaches .pointLost && s.ptw.points.toList.any Point.lostAlarm)
  || (s.ntu.reaches .fogState && s.fcu.zones.toList.any (fun z => z.state == .fog))
  || (s.ntu.reaches .valveFault && s.vdu.valves.toList.any (fun v => v.state == .fault))

/-- R173, R182: ALM judged afresh; it is deasserted while the part is held. -/
def State.judgeAlarm (s : State) : State :=
  s.setNtu { s.ntu with alm := s.hold == .working && s.alarm }

/-! ### Lines of a valve channel (R110) -/

/-- The channel is in a home run. -/
def ValveState.isHoming : ValveState → Bool
  | .homing _ => true
  | _ => false

/-- EN: asserted in HOMING, SEEKING and SETTLING, and in no other state (R110). -/
def Valve.en (v : Valve) : Bool :=
  v.state.isHoming || v.state == .seeking || v.state == .settling

/-- The channel is sending steps. -/
def Valve.stepping (v : Valve) : Bool := v.state.isHoming || v.state == .seeking

/-- STEP: high for the last (step period / 2) ms of each step (R110). -/
def Valve.stepLine (v : Valve) (now : Nat) : Bool :=
  v.stepping && decide (now < v.stepEnd) && decide (v.stepEnd ≤ now + millis (v.config.period / 2))

/-- DIR: high toward open (R110). -/
def Valve.dir (v : Valve) : Bool := v.toOpen

/-- DRST: asserted during the fault-clear pulse alone (R110, R123). -/
def Valve.drst (v : Valve) : Bool := v.clearing

/-- R96: the class of a channel is in service in READY, SEEKING and SETTLING. -/
def Valve.inService (v : Valve) : Bool :=
  v.state == .ready || v.state == .seeking || v.state == .settling

/-- TXE of a field port: asserted from the start of a transmission to its end (R1). -/
def FieldPort.txe (f : FieldPort) : Bool := f.line.sending.isSome

end Sys2Proof.Machine
end

