-- ==== Sys2Proof/Machine/Capture.lean ====
section
/-! DEFINITION. Trend capture (09): samples, triggers, stops and endings. -/

namespace Sys2Proof.Machine

/-- What a sample belongs to (9.1): its kind and number are those of a descriptor's source (R178). -/
inductive Origin where
  | point (p : Fin 256)
  | dewPoint (z : Fin 4)
  | margin (z : Fin 4)
  | budget
  | grant (c : Fin 4)
  | position (v : Fin 4)
deriving DecidableEq, Repr

/-- The source kind of an origin (R178). -/
def Origin.kind : Origin → Nat
  | .point _ => 0
  | .dewPoint _ => 1
  | .margin _ => 2
  | .budget => 3
  | .grant _ => 4
  | .position _ => 5

/-- The source number of an origin (R178): 0 for Q_f. -/
def Origin.number : Origin → Nat
  | .point p => p.val
  | .dewPoint z => z.val
  | .margin z => z.val
  | .budget => 0
  | .grant c => c.val
  | .position v => v.val

/-- Code of an end status (09). -/
def EndStatus.code : EndStatus → Nat
  | .none => 0
  | .full => 1
  | .stoppedByAlarm => 2
  | .triggeredDone => 3
  | .sourceChanged => 4
  | .reset => 5
  | .disabled => 6

/-- Code of a quality (09). -/
def Quality.code : Quality → Nat
  | .live => 0
  | .stale => 1
  | .lost => 2
  | .clamped => 3
  | .degraded => 4

/-- Mode LINEAR. -/
def Descriptor.linear (d : Descriptor) : Bool := d.mode == 0

/-- Mode RING. -/
def Descriptor.ring (d : Descriptor) : Bool := d.mode == 1

/-- The descriptor's source is this origin. -/
def Descriptor.hasSource (d : Descriptor) (o : Origin) : Bool :=
  d.sourceKind == o.kind && d.sourceNumber == o.number

/-- The channel is ARMED or RUNNING. -/
def CaptureChannel.active (c : CaptureChannel) : Bool :=
  c.state == .armed || c.state == .running

/-- R167: the channel enters ENDED with its end status; the rest of its record stays. -/
def CaptureChannel.finish (c : CaptureChannel) (status : EndStatus) : CaptureChannel :=
  { c with state := .ended, status := status }

/-- R167: an ending; CAPTURE_END is raised when the notice flag is set. -/
def State.endCapture (s : State) (i : Fin 8) (status : EndStatus) : State :=
  let c := s.tcu.channels[i]
  let s := s.setTcu { s.tcu with channels := s.tcu.channels.set i (c.finish status) }
  if c.descriptor.notify = 1 then s.raise .captureEnd i.val status.code else s

/-- R164: the pointer after a write. -/
def CaptureChannel.nextPointer (c : CaptureChannel) : Nat :=
  let d := c.descriptor
  if d.pointerMode = 1 then d.base
  else if c.pointer + 1 < d.base + d.length then c.pointer + 1
  else if d.ring then d.base else c.pointer

/-- R164, R165: a write lowers the remaining count of a LINEAR channel, and of a RING channel that
is RUNNING. -/
def CaptureChannel.counts (c : CaptureChannel) : Bool := c.descriptor.linear || c.state == .running

/-- R164: the channel after it has written one sample, before any ending. -/
def CaptureChannel.advance (c : CaptureChannel) : CaptureChannel :=
  { c with pointer := c.nextPointer, stored := bump c.stored,
           remaining := if c.counts then c.remaining - 1 else c.remaining }

/-- R164: a LINEAR channel with ADVANCE has just written the last place of its region. -/
def CaptureChannel.filled (c : CaptureChannel) : Bool :=
  c.descriptor.linear && c.descriptor.pointerMode != 1
    && decide (c.descriptor.base + c.descriptor.length ≤ c.pointer + 1)

/-- R164, R165: the end status that a write brings, or none. -/
def CaptureChannel.writeEnds (c : CaptureChannel) : Option EndStatus :=
  if c.descriptor.linear then
    if c.filled || decide (c.remaining ≤ 1) then some .full else none
  else if c.state = .running ∧ c.remaining ≤ 1 then some .triggeredDone else none

/-- R162: a value above +32767 is written as +32767, CLAMPED unless it was DEGRADED. -/
def Sample.fitted (x : Sample) : Sample :=
  if x.value > 32767 then ⟨32767, if x.quality = .degraded then .degraded else .clamped⟩ else x

/-- R164: one channel takes a sample of its source, if it is ARMED or RUNNING. -/
def State.sampleChannel (s : State) (o : Origin) (x : Sample) (i : Fin 8) : State :=
  let c := s.tcu.channels[i]
  if c.active && c.descriptor.hasSource o then
    let memory := Memory.write .zero s.tcu.memory c.pointer x.fitted
    let s := s.setTcu ⟨memory, s.tcu.channels.set i c.advance⟩
    match c.writeEnds with
    | some status => s.endCapture i status
    | none => s
  else s

/-- R161, R162, R164: a sample is offered to every channel. The channels take it in number order, which
9.2 leaves open and the record of CAPTURE_END shows when several end at it (R171; log 34). -/
def State.sample (s : State) (o : Origin) (value : Int) (quality : Quality) : State :=
  (List.finRange 8).foldl (fun s i => s.sampleChannel o ⟨value, quality⟩ i) s

/-- R165: the trigger of an ARMED RING channel. -/
def CaptureChannel.trigger (c : CaptureChannel) : CaptureChannel :=
  { c with state := .running, remaining := c.descriptor.count, triggerAt := some c.pointer }

/-- R165: one channel meets a trigger of this kind and number. -/
def State.triggerChannel (s : State) (kind number : Nat) (i : Fin 8) : State :=
  let c := s.tcu.channels[i]
  if c.state = .armed ∧ c.descriptor.ring ∧ c.descriptor.triggerKind = kind
      ∧ c.descriptor.triggerNumber = number then
    s.setTcu { s.tcu with channels := s.tcu.channels.set i c.trigger }
  else s

/-- R166: one channel meets an alarm entry of its source point. -/
def State.stopChannel (s : State) (p : Fin 256) (i : Fin 8) : State :=
  let c := s.tcu.channels[i]
  if c.active && c.descriptor.linear && c.descriptor.stopOnAlarm == 1
      && c.descriptor.hasSource (.point p) then
    s.endCapture i .stoppedByAlarm
  else s

/-- R51, R165, R166: a point enters HIGH, LOW or LOST. The channels meet it in number order, which R166
and R167 leave open and the record of CAPTURE_END shows (R171; log 34). -/
def State.pointAlarm (s : State) (p : Fin 256) : State :=
  (List.finRange 8).foldl (fun s i => (s.triggerChannel 0 p.val i).stopChannel p i) s

/-- R74, R165: a fog zone enters FOG. -/
def State.fogTrigger (s : State) (z : Fin 4) : State :=
  (List.finRange 8).foldl (fun s i => s.triggerChannel 1 z.val i) s

/-- R167: one channel meets the rewrite of a point. -/
def State.endRewritten (s : State) (p : Fin 256) (i : Fin 8) : State :=
  let c := s.tcu.channels[i]
  if c.active && c.descriptor.hasSource (.point p) then s.endCapture i .sourceChanged else s

/-- R44, R167: the entry of a point is rewritten; every active channel whose source it is ends, in
channel number order. -/
def State.sourceRewritten (s : State) (p : Fin 256) : State :=
  (List.finRange 8).foldl (fun s i => s.endRewritten p i) s

/-! ### Descriptors and enabling -/

/-- R160, R178: the source is one of those of 9.1; for Q_f the number is 0 (log 24). -/
def Descriptor.sourceOk (d : Descriptor) : Bool :=
  match d.sourceKind with
  | 0 => d.sourceNumber ≤ 255
  | 1 => d.sourceNumber ≤ 3
  | 2 => d.sourceNumber ≤ 3
  | 3 => d.sourceNumber == 0
  | 4 => d.sourceNumber ≤ 3
  | 5 => d.sourceNumber ≤ 3
  | _ => false

/-- R160: for a RING descriptor the count is at most the length and the trigger names a point or a
fog zone. -/
def Descriptor.ringOk (d : Descriptor) : Bool :=
  d.count ≤ d.length
    && (d.triggerKind == 0 && decide (d.triggerNumber ≤ 255)
        || d.triggerKind == 1 && decide (d.triggerNumber ≤ 3))

/-- R160: the checks of a descriptor write. The stop-on-alarm flag counts in LINEAR and the trigger
in RING; the other is stored unchecked. -/
def Descriptor.ok (d : Descriptor) : Bool :=
  d.sourceOk && decide (d.base ≤ 4095) && decide (1 ≤ d.length) && decide (d.length ≤ 4096)
    && decide (d.base + d.length ≤ 4096) && decide (d.mode ≤ 1) && decide (1 ≤ d.count)
    && decide (d.count ≤ 4096) && decide (d.pointerMode ≤ 1) && decide (d.notify ≤ 1)
    && (if d.ring then d.ringOk else decide (d.stopOnAlarm ≤ 1))

/-- R160: the channel that a taken descriptor write leaves. -/
def CaptureChannel.written (d : Descriptor) : CaptureChannel := ⟨d, .off, d.base, 0, 0, none, .none⟩

/-- 9.1: two regions share a place. -/
def Descriptor.overlaps (d e : Descriptor) : Bool :=
  decide (d.base < e.base + e.length) && decide (e.base < d.base + d.length)

/-- R163, check 2: a point source is in use, and for RING a point trigger is in use. -/
def State.captureSourceOk (s : State) (d : Descriptor) : Bool :=
  let used (n : Nat) : Bool := if h : n < 256 then s.ptw.points[n].config.inUse else false
  (d.sourceKind != 0 || used d.sourceNumber)
    && (!d.ring || d.triggerKind != 0 || used d.triggerNumber)

/-- R163, check 3: the region overlaps that of another channel that is ARMED or RUNNING. -/
def State.captureOverlap (s : State) (i : Fin 8) : Bool :=
  (List.finRange 8).any (fun j => j != i && s.tcu.channels[j].active
    && s.tcu.channels[i].descriptor.overlaps s.tcu.channels[j].descriptor)

/-- R163: the channel that an enable starts. -/
def CaptureChannel.started (c : CaptureChannel) : CaptureChannel :=
  let d := c.descriptor
  { c with state := if d.ring then .armed else .running, pointer := d.base, stored := 0,
           remaining := if d.ring then 0 else d.count, triggerAt := none, status := .none }

/-- R169: a channel after a line or supervisor reset. -/
def CaptureChannel.afterReset (c : CaptureChannel) : CaptureChannel :=
  if c.active then c.finish .reset else c

end Sys2Proof.Machine
end

