-- ==== Sys2Proof/Machine/Points.lean ====
section
/-! DEFINITION. The point table and watch (03): checks of a record, roles, the watch and limit
state of inputs, output points and the pending output list, the ownership filter. -/

namespace Sys2Proof.Machine

/-! ### Roles (3.2) by their codes (11.2) -/

/-- FOG_AIR_T(z). -/
def roleFogAirT (z : Fin 4) : Nat := 1 + z.val
/-- FOG_RH(z). -/
def roleFogRh (z : Fin 4) : Nat := 5 + z.val
/-- FOG_ICE_AIR_T(z). -/
def roleFogIceAirT (z : Fin 4) : Nat := 9 + z.val
/-- ZONE_T(z). -/
def roleZoneT (z : Fin 8) : Nat := 13 + z.val
/-- LOOP_FLOW. -/
def roleLoopFlow : Nat := 21
/-- LOOP_SUPPLY_T. -/
def roleLoopSupplyT : Nat := 22
/-- LOOP_RETURN_T. -/
def roleLoopReturnT : Nat := 23
/-- SUBFLOOR_T. -/
def roleSubfloorT : Nat := 24
/-- CUE_TRIGGER_SHOW. -/
def roleCueTriggerShow : Nat := 25
/-- CUE_TRIGGER_HOUSE. -/
def roleCueTriggerHouse : Nat := 26
/-- PROFILE_SELECT. -/
def roleProfileSelect : Nat := 27
/-- DEHUM_STAGE. -/
def roleDehumStage : Nat := 28
/-- DESTRAT_FAN. -/
def roleDestratFan : Nat := 29
/-- ZONE_VALVE(z). -/
def roleZoneValve (z : Fin 8) : Nat := 30 + z.val
/-- BOILER_CMD. -/
def roleBoilerCmd : Nat := 38

/-- The point is an input. -/
def PointConfig.isInput (c : PointConfig) : Bool := c.direction == 0

/-- R42: the role is NONE or a role of the point's direction. -/
def PointConfig.roleOk (c : PointConfig) : Bool :=
  c.role == 0
    || (c.direction == 0 && decide (1 ≤ c.role) && decide (c.role ≤ 27))
    || (c.direction == 1 && decide (28 ≤ c.role) && decide (c.role ≤ 38))

/-- R42: the checks of a write that sets in use to yes. -/
def PointConfig.ok (c : PointConfig) : Bool :=
  decide (c.direction ≤ 1) && decide (1 ≤ c.station) && decide (c.station ≤ 126)
    && decide (c.channel ≤ 255) && decide (c.deadband ≤ 32767)
    && decide (1 ≤ c.staleAfter) && decide (c.staleAfter ≤ 3600) && decide (c.holdTime ≤ 3600)
    && decide (c.forward ≤ 1) && decide (c.overrideTime ≤ 3600)
    && decide (1 ≤ c.refresh) && decide (c.refresh ≤ 600)
    && decide (c.spanLow ≤ c.spanHigh) && decide (c.limitLow ≤ c.limitHigh) && c.roleOk

/-- R43: another record in use shares the key or the role; NONE is no role for this. -/
def PointTable.conflicts (t : PointTable) (i : Fin 256) (c : PointConfig) : Bool :=
  (List.finRange 256).any (fun j =>
    let d := t.points[j].config
    j != i && d.inUse
      && ((d.station == c.station && d.channel == c.channel) || (c.role != 0 && d.role == c.role)))

/-- R45: the point in use that holds a role. -/
def PointTable.holder (t : PointTable) (role : Nat) : Option (Fin 256) :=
  firstIndex t.points (fun p => p.config.inUse && p.config.role == role)

/-- R46, R55: the point in use that holds a key (station, channel). -/
def PointTable.byKey (t : PointTable) (station channel : Nat) : Option (Fin 256) :=
  firstIndex t.points
    (fun p => p.config.inUse && p.config.station == station && p.config.channel == channel)

/-- The runtime of one point. -/
def State.runtime (s : State) (i : Fin 256) : PointRuntime := s.ptw.points[i].runtime

/-- The configuration of one point. -/
def State.config (s : State) (i : Fin 256) : PointConfig := s.ptw.points[i].config

/-- The point table with the runtime of one point changed. -/
def PointTable.changeRuntime (t : PointTable) (i : Fin 256) (f : PointRuntime → PointRuntime) :
    PointTable :=
  { t with points := change t.points i (fun p => { p with runtime := f p.runtime }) }

/-- The state with the runtime of one point changed. -/
def State.changeRuntime (s : State) (i : Fin 256) (f : PointRuntime → PointRuntime) : State :=
  s.setPtw (s.ptw.changeRuntime i f)

/-- R44: the rewrite of an entry: the record is stored, its runtime starts afresh, and it leaves
the pending output list. -/
def PointTable.rewrite (t : PointTable) (i : Fin 256) (c : PointConfig) : PointTable :=
  { points := t.points.set i ⟨c, .fresh c.fallback⟩, pendingOut := t.pendingOut.filter (· != i) }

/-- R44: a taken write of a point record; PTW tells TCU of the rewrite. -/
def State.rewritePoint (s : State) (i : Fin 256) (c : PointConfig) : State :=
  (s.setPtw (s.ptw.rewrite i c)).sourceRewritten i

/-- R61: the point table after a line or supervisor reset. -/
def PointTable.afterReset (t : PointTable) : PointTable :=
  { points := tabulate 256 (fun i =>
      let p := t.points[i]
      if p.config.inUse then { p with runtime := .fresh p.config.fallback } else p),
    pendingOut := [] }

/-! ### Arrivals (R47, R51, R161) -/

/-- R47, R48: the runtime of an input point after an arrival of `value` at time `now`. -/
def PointConfig.arrive (c : PointConfig) (now : Nat) (value : Int) (r : PointRuntime) :
    PointRuntime :=
  let v := clampInt c.spanLow c.spanHigh value
  { r with raw := some value, seen := v, watch := .live, limit := c.limitAfter r.limit v,
           clamped := v != value, lastArrival := some (toMillis now), staleSince := none }

/-- R47, R48, R51, R161: an arrival: the runtime moves, POINT_LIMIT is raised on an entry into LOW
or HIGH, the sample goes to TCU, and then the alarm entry. -/
def State.arrival (s : State) (i : Fin 256) (value : Int) : State :=
  let c := s.config i
  let before := (s.runtime i).limit
  let s := s.changeRuntime i (c.arrive s.now value)
  let r := s.runtime i
  let s' := match limitDetail before r.limit with
    | some d => s.raise .pointLimit i.val d
    | none => s
  let s' := s'.sample (.point i) r.seen (if r.clamped then .clamped else .live)
  match limitDetail before r.limit with
  | some _ => s'.pointAlarm i
  | none => s'

/-- R50: a STALE point becomes LOST. -/
def State.becomeLost (s : State) (i : Fin 256) : State :=
  let c := s.config i
  let s := s.changeRuntime i (fun r =>
    { r with watch := .lost, seen := c.fallback, limit := .normal, staleSince := none })
  let s := s.raise .pointLost i.val c.station
  let s := s.sample (.point i) c.fallback .lost
  s.pointAlarm i

/-- R49, R50: a LIVE point becomes STALE, and LOST at the same moment when its hold time is 0. -/
def State.becomeStale (s : State) (i : Fin 256) : State :=
  let c := s.config i
  let now := s.now
  let s := s.changeRuntime i (fun r => { r with watch := .stale, staleSince := some (toMillis now) })
  let s := s.raise .pointStale i.val c.station
  let s := s.sample (.point i) (s.runtime i).seen .stale
  if c.holdTime = 0 then s.becomeLost i else s

/-! ### Output points (3.4) -/

/-- R53: the point joins the tail of the pending output list, unless its pending flag is set. -/
def PointTable.join (t : PointTable) (i : Fin 256) : PointTable :=
  if t.points[i].runtime.pendingFlag then t
  else { t.changeRuntime i (fun r => { r with pendingFlag := true }) with
         pendingOut := t.pendingOut ++ [i] }

/-- R53: the point leaves the pending output list. -/
def PointTable.leave (t : PointTable) (i : Fin 256) : PointTable :=
  { t.changeRuntime i (fun r => { r with pendingFlag := false }) with
    pendingOut := t.pendingOut.filter (· != i) }

/-- R52: a job writes v to an output point. -/
def PointTable.writeOutput (t : PointTable) (i : Fin 256) (v : Int) : PointTable :=
  let r := t.points[i].runtime
  if r.overrideAt.isSome then t.changeRuntime i (fun r => { r with autoValue := some v })
  else
    let t := t.changeRuntime i (fun r => { r with autoValue := some v, toSend := some v })
    if r.lastSent = some v then t else t.join i

/-- R45, R52: a job writes v to the output point that holds a role; the write is lost while the
role is unassigned. -/
def State.writeRole (s : State) (role : Nat) (v : Int) : State :=
  match s.ptw.holder role with
  | some i => s.setPtw (s.ptw.writeOutput i v)
  | none => s

/-- R54: the refresh interval of a point is running: an AUTO output, not pending, already sent. -/
def Point.refreshing (p : Point) : Bool :=
  p.config.inUse && !p.config.isInput && p.runtime.overrideAt.isNone && !p.runtime.pendingFlag
    && p.runtime.lastSent.isSome

/-- R56: the override expiry of a point. -/
def State.endOverride (s : State) (i : Fin 256) : State :=
  let s := s.changeRuntime i (fun r => { r with overrideAt := none })
  let s := match (s.runtime i).autoValue with
    | some v =>
      let s := s.changeRuntime i (fun r => { r with toSend := some v })
      s.setPtw (s.ptw.join i)
    | none => s
  s.raise .override i.val 3

/-- R55: the ownership filter on one COMMAND entry of the supervisor: whether the entry passes, and
the state after. -/
def State.filterEntry (s : State) (station channel : Nat) : Bool × State :=
  match s.ptw.byKey station channel with
  | none => (true, s)
  | some i =>
    let c := s.config i
    if c.isInput then (true, s)
    else if c.overrideTime = 0 then (false, s.raise .override i.val 2)
    else
      let expiry := toMillis s.now + 1000 * c.overrideTime
      let taken := (s.runtime i).overrideAt.isSome
      let s := s.setPtw (s.ptw.leave i)
      let s := s.changeRuntime i (fun r => { r with overrideAt := some expiry })
      (true, if taken then s else s.raise .override i.val 1)

/-! ### Roles as the consumers read them (R45) -/

/-- What a consumer reads of an input role: unassigned, or the seen value with whether the point is
LIVE. -/
def State.readRole (s : State) (role : Nat) : Option (Int × Bool) :=
  (s.ptw.holder role).map (fun i => ((s.runtime i).seen, (s.runtime i).watch == .live))

end Sys2Proof.Machine
end

