-- ==== Sys2Proof/Machine/Cues.lean ====
section
/-! DEFINITION. Lighting cues (07): runs and levels, the start check, fades and completion, GO,
STOP and repositioning, and the frame of the engine. -/

namespace Sys2Proof.Machine

/-! ### Runs and levels (7.2) -/

/-- Form BLOCK. -/
def CueRecord.isBlock (c : CueRecord) : Bool := c.form == 0

/-- R131: the runs of a CHAINED list, each measured from the beginning of the one before. -/
def chainRuns : Nat → List SpanEntry → List (Nat × Nat)
  | _, [] => []
  | base, e :: rest => (base + e.offset, e.width) :: chainRuns (base + e.offset) rest

/-- R131: the span entries that a SPANS cue takes. -/
def CueRecord.entries (c : CueRecord) (e : CueEngine) : List SpanEntry :=
  (List.range c.spanCount).map (fun j => e.span (c.spanIndex + j))

/-- R130, R131: the runs of a cue in run order, each its beginning and its width. -/
def CueRecord.runs (c : CueRecord) (e : CueEngine) : List (Nat × Nat) :=
  match c.form with
  | 0 => (List.range (c.repeats + 1)).map (fun r => (c.start + r * c.stride, c.width))
  | 1 => (c.entries e).map (fun x => (c.base + x.offset, x.width))
  | _ => chainRuns c.base (c.entries e)

/-- R132: the channels a cue names, in order. -/
def namings (runs : List (Nat × Nat)) : List Nat :=
  runs.flatMap (fun r => List.range' r.1 r.2)

/-- R132: the source level of the n-th naming. -/
def CueRecord.levelOf (c : CueRecord) (e : CueEngine) (n : Nat) : Nat :=
  if c.source = 1 then e.scene (c.sceneIndex + n) else c.flat

/-- R134: with park enabled, a naming whose source level is the park value sets nothing. -/
def CueRecord.parks (c : CueRecord) (level : Nat) : Bool :=
  c.parkEnable == 1 && level == c.parkValue

/-- R134: the target of each channel: its last naming that is not parked; none outside the fade. -/
def CueRecord.targets (c : CueRecord) (e : CueEngine) : Vector (Option Nat) 256 :=
  (namings (c.runs e)).zipIdx.foldl
    (fun v x =>
      let level := c.levelOf e x.2
      if h : x.1 < 256 then (if c.parks level then v else v.set x.1 (some level)) else v)
    (.replicate 256 none)

/-- R133: the start check in its order; the reason of the first check that fails. -/
def CueRecord.startFault (c : CueRecord) (e : CueEngine) : Option Nat :=
  let runs := c.runs e
  if !c.isBlock && decide (512 < c.spanIndex + c.spanCount) then some 3
  else if runs.any (fun r => r.2 == 0) then some 1
  else if runs.any (fun r => decide (256 < r.1 + r.2)) then some 2
  else if c.source == 1 && decide (4096 < c.sceneIndex + (namings runs).length) then some 4
  else none

/-! ### Checks of a cue record write (R127) -/

/-- R127: the fields that the form uses lie in range. -/
def CueRecord.formOk (c : CueRecord) : Bool :=
  match c.form with
  | 0 => decide (c.start ≤ 255) && decide (1 ≤ c.width) && decide (c.width ≤ 256)
      && decide (c.repeats ≤ 15) && decide (1 ≤ c.stride) && decide (c.stride ≤ 255)
  | 1 => decide (c.base ≤ 255) && decide (c.spanIndex ≤ 511) && decide (1 ≤ c.spanCount)
      && decide (c.spanCount ≤ 64)
  | 2 => decide (c.base ≤ 255) && decide (c.spanIndex ≤ 511) && decide (1 ≤ c.spanCount)
      && decide (c.spanCount ≤ 64)
  | _ => false

/-- R127: the field that the level source uses lies in range. -/
def CueRecord.sourceOk (c : CueRecord) : Bool :=
  match c.source with
  | 0 => c.flat ≤ 255
  | 1 => c.sceneIndex ≤ 4095
  | _ => false

/-- R127: the step lies in range where the update mode uses it; SWING refuses −128. -/
def CueRecord.stepOk (c : CueRecord) : Bool :=
  match c.update with
  | 0 => true
  | 1 => decide (-128 ≤ c.step) && decide (c.step ≤ 127)
  | 2 => decide (-127 ≤ c.step) && decide (c.step ≤ 127)
  | _ => false

/-- R127: the checks of a cue record write. -/
def CueRecord.ok (c : CueRecord) : Bool :=
  decide (c.next ≤ 255) && decide (c.holdAfter ≤ 1) && decide (c.notify ≤ 1) && c.formOk
    && c.sourceOk && decide (c.parkEnable ≤ 1) && decide (c.parkValue ≤ 255)
    && decide (c.fade ≤ 255) && c.stepOk

/-! ### Playbacks -/

/-- The number of a playback: 0 SHOW, 1 HOUSE. -/
def PlaybackId.number : PlaybackId → Nat
  | .showPlayback => 0
  | .housePlayback => 1

/-- The playback of an engine. -/
def CueEngine.playback (e : CueEngine) : PlaybackId → Playback
  | .showPlayback => e.playbackShow
  | .housePlayback => e.playbackHouse

/-- The engine with another playback. -/
def CueEngine.setPlayback (e : CueEngine) (b : PlaybackId) (p : Playback) : CueEngine :=
  match b with
  | .showPlayback => { e with playbackShow := p }
  | .housePlayback => { e with playbackHouse := p }

/-- The playback of a state. -/
def State.playback (s : State) (b : PlaybackId) : Playback := s.cue.playback b

/-- The state with another playback. -/
def State.setPlayback (s : State) (b : PlaybackId) (p : Playback) : State :=
  s.setCue (s.cue.setPlayback b p)

/-- R128: the cue is the current cue of a playback that is FADING or HELD. -/
def Playback.runs (p : Playback) (i : Fin 256) : Bool :=
  p.current == some i && (p.state == .fading || p.state == .held)

/-- R134: the fade record of a cue that starts from these levels. -/
def CueRecord.fadeFrom (c : CueRecord) (e : CueEngine) (levels : Vector Nat 256) : Fade :=
  let targets := c.targets e
  { channels := tabulate 256 (fun ch => (targets[ch]).map (fun l1 => (levels[ch], l1))),
    length := c.fade * 4, count := 0 }

/-- R133, R134: the cue at the run pointer starts, or fails its start check. -/
def State.startCue (s : State) (b : PlaybackId) : State :=
  let p := s.playback b
  let c := s.cue.cues[p.pointer]
  match c.startFault s.cue with
  | some reason =>
    (s.setPlayback b { p with state := .fault, current := none, fade := .cleared }).raise
      .cueFault p.pointer.val (256 * b.number + reason : Nat)
  | none =>
    s.setPlayback b { p with state := .fading, current := some p.pointer,
                             fade := c.fadeFrom s.cue p.levels }

/-- R136, step 1: every channel in the fade takes its target. -/
def Playback.atTargets (p : Playback) : Vector Nat 256 :=
  tabulate 256 (fun ch => match p.fade.channels[ch] with
    | some x => x.2
    | none => p.levels[ch])

/-- R136, step 2: a channel moved by the step, wrapping within 0 to 255. -/
def wrapChannel (channel : Nat) (step : Int) : Nat := (((channel : Int) + step) % 256).toNat

/-- R136, step 2: the cue record after the update write-back. -/
def CueRecord.writeBack (c : CueRecord) : CueRecord :=
  let moved : CueRecord :=
    if c.isBlock then { c with start := wrapChannel c.start c.step }
    else { c with base := wrapChannel c.base c.step }
  match c.update with
  | 1 => moved
  | 2 => { moved with step := -c.step }
  | _ => c

/-- R136, steps 1 to 3, and HELD with the fade record cleared: the completion of cue `i`. -/
def State.completeQuietly (s : State) (b : PlaybackId) (i : Fin 256) : State :=
  let p := s.playback b
  let c := s.cue.cues[i].writeBack
  let s := s.setCue { s.cue with cues := s.cue.cues.set i c }
  s.setPlayback b { state := .held, pointer := Fin.ofNat 256 c.next, current := some i,
                    levels := p.atTargets, fade := .cleared }

/-- R136, steps 1 to 4: the completion with its CUE_DONE, leaving the playback HELD. -/
def State.completeHeld (s : State) (b : PlaybackId) (i : Fin 256) : State :=
  let notify := s.cue.cues[i].notify
  let s := s.completeQuietly b i
  if notify = 1 then s.raise .cueDone i.val b.number else s

/-- R136: a FADING playback's cue completes; without hold after, the cue at the run pointer starts. -/
def State.completeCue (s : State) (b : PlaybackId) : State :=
  match (s.playback b).current with
  | none => s
  | some i =>
    let holdAfter := s.cue.cues[i].holdAfter
    let s := s.completeHeld b i
    if holdAfter = 1 then s else s.startCue b

/-- R137: GO by the playback's state. -/
def State.goPlayback (s : State) (b : PlaybackId) : State :=
  if (s.playback b).state = .fading then s.completeCue b else s.startCue b

/-- R138: STOP in every state: IDLE, own levels 0, no current cue, no fade; the run pointer stays. -/
def State.stopPlayback (s : State) (b : PlaybackId) : State :=
  s.setPlayback b (.idleAt (s.playback b).pointer)

/-- R141: SHOW completes a fade without its follow-on. -/
def State.settleShow (s : State) : State :=
  let p := s.playback .showPlayback
  match p.state, p.current with
  | .fading, some i => s.completeHeld .showPlayback i
  | _, _ => s

/-- R141: SHOW with its run pointer at the start cue. -/
def State.pointShow (s : State) (cue : Fin 256) : State :=
  s.setPlayback .showPlayback { s.playback .showPlayback with pointer := cue }

/-- R141: without the auto-go flag, SHOW that was in FAULT enters HELD with no current cue. -/
def State.holdShow (s : State) : State :=
  let p := s.playback .showPlayback
  if p.state = .fault then s.setPlayback .showPlayback { p with state := .held, current := none }
  else s

/-- R141: the repositioning of SHOW by a selection. -/
def State.repositionShow (s : State) (cue : Fin 256) (autoGo : Bool) : State :=
  let s := s.settleShow.pointShow cue
  if autoGo then s.goPlayback .showPlayback else s.holdShow

/-! ### Frames (7.6) -/

/-- R135: the level of a channel at frame k of a fade of K frames. -/
def fadeLevel (l0 l1 k length : Nat) : Nat :=
  ((l0 : Int) + Int.tdiv (((l1 : Int) - l0) * k) length).toNat

/-- R135: the playback with its fade moved one frame, for K above 0. -/
def Playback.fadeStep (p : Playback) : Playback :=
  let k := p.fade.count + 1
  { p with
    levels := tabulate 256 (fun ch => match p.fade.channels[ch] with
      | some x => fadeLevel x.1 x.2 k p.fade.length
      | none => p.levels[ch]),
    fade := { p.fade with count := k } }

/-- R135, R136, R142 stage 1: one playback at a frame. -/
def State.framePlayback (s : State) (b : PlaybackId) : State :=
  let p := s.playback b
  if p.state ≠ .fading then s
  else if p.fade.length = 0 then s.completeCue b
  else
    let p := p.fadeStep
    let s := s.setPlayback b p
    if p.fade.length ≤ p.fade.count then s.completeCue b else s

/-- R143: the level that a playback counts in the merge: 0 in IDLE. -/
def Playback.counted (p : Playback) (ch : Fin 256) : Nat :=
  if p.state = .idle then 0 else p.levels[ch]

/-- R143: the merged level of a channel. -/
def CueEngine.merged (e : CueEngine) (ch : Fin 256) : Nat :=
  max (e.playbackShow.counted ch) (e.playbackHouse.counted ch)

/-- Channel j of lighting block b: 16b + j. -/
def blockChannel (b j : Fin 16) : Fin 256 := ⟨16 * b.val + j.val, by omega⟩

/-- R144: some level of a block differs from its last-sent copy. -/
def CueEngine.differs (e : CueEngine) (b : Fin 16) : Bool :=
  (List.finRange 16).any (fun j => e.levelMap[blockChannel b j] != e.lastSent[blockChannel b j])

/-- R143, R142 stage 2: the output level map is formed. -/
def CueEngine.merge (e : CueEngine) : CueEngine := { e with levelMap := tabulate 256 e.merged }

/-- R144, R142 stage 3: each block that differs joins the due set. -/
def CueEngine.markDue (e : CueEngine) : CueEngine :=
  { e with due := tabulate 16 (fun b => e.due[b] || e.differs b) }

/-- R145, R142 stage 4: the refresh count rises; every third frame marks one block. -/
def CueEngine.refresh (e : CueEngine) : CueEngine :=
  if e.refreshCount + 1 < 3 then { e with refreshCount := e.refreshCount + 1 }
  else { e with due := e.due.set e.refreshPtr true, refreshPtr := e.refreshPtr + 1,
                refreshCount := 0 }

/-- R142: one frame; the next falls 25 ms after the moment this one was due. Stage 1 takes SHOW before
HOUSE, an order that R142 leaves open (log 33). -/
def State.cueFrame (s : State) : State :=
  let s := s.comesAt s.cue.nextFrame
  let s := s.setCue { s.cue with nextFrame := s.cue.nextFrame + millis 25 }
  let s := (s.framePlayback .showPlayback).framePlayback .housePlayback
  s.setCue s.cue.merge.markDue.refresh

/-! ### Reset (R149) -/

/-- R149: a playback that is FADING at the reset completes without CUE_DONE and is HELD. -/
def State.completeAtReset (s : State) (b : PlaybackId) : State :=
  let p := s.playback b
  match p.state, p.current with
  | .fading, some i => s.completeQuietly b i
  | _, _ => s

/-- R149: CUE after a line or supervisor reset; the first frame 25 ms after `start`. -/
def State.resetCue (s : State) (start : Nat) : State :=
  let s := (s.completeAtReset .showPlayback).completeAtReset .housePlayback
  s.setCue { s.cue with due := .replicate 16 true, refreshPtr := 0, refreshCount := 0,
                        nextFrame := start + millis 25 }

end Sys2Proof.Machine
end

