-- ==== Sys2Proof/Machine/Fog.lean ====
section
/-! DEFINITION. Fog prevention (04): saturation table, dew point and margin, zone states, the
dehumidifier stage, the effective stage and the destratification fan. -/

namespace Sys2Proof.Machine

/-! ### The saturation table (4.1) -/

/-- The pressure of a knot 0 to 40. -/
def Fcu.knot (f : Fcu) (i : Nat) : Nat := if h : i < 41 then f.knots[i] else 0

/-- R63: P[0] is at least 1 and each knot is greater than the one before. -/
def Fcu.tableOk (f : Fcu) : Bool :=
  decide (1 ≤ f.knot 0) && (List.range 40).all (fun i => decide (f.knot i < f.knot (i + 1)))

/-- Code of a zone state (4.4). -/
def ZoneState.code : ZoneState → Nat
  | .unknown => 0
  | .clear => 1
  | .watch => 2
  | .act => 3
  | .fog => 4

/-- R66, R62: the zone UNKNOWN, its flags cleared, the rest of its record kept. -/
def FogZone.unknown (z : FogZone) : FogZone :=
  { z with state := .unknown, degraded := false, lowDew := false }

/-- R74: what a move of a zone raises and triggers: FOG_STATE and a TCU trigger on entering FOG,
FOG_STATE with the new state's code on leaving it. -/
def State.zoneMoved (s : State) (z : Fin 4) (before after : ZoneState) : State :=
  if before ≠ .fog ∧ after = .fog then (s.raise .fogState z.val 4).fogTrigger z
  else if before = .fog ∧ after ≠ .fog then s.raise .fogState z.val after.code
  else s

/-- The state with another record for one zone, and R74's notices of the move. -/
def State.setZone (s : State) (i : Fin 4) (z : FogZone) : State :=
  let before := s.fcu.zones[i].state
  (s.setFcu { s.fcu with zones := s.fcu.zones.set i z }).zoneMoved i before z.state

/-- R62: one zone becomes UNKNOWN at a knot write. -/
def State.clearZone (s : State) (z : Fin 4) : State := s.setZone z s.fcu.zones[z].unknown

/-- R62: a taken write of a knot; when it takes the flag from set to clear, every zone becomes
UNKNOWN, in the order 0 to 3, which the rule leaves open and the record of FOG_STATE shows (R171;
log 29). -/
def State.writeKnot (s : State) (i : Fin 41) (pressure : Nat) : State :=
  let wasValid := s.fcu.valid
  let s := s.setFcu { s.fcu with knots := s.fcu.knots.set i pressure, valid := false }
  if wasValid then (List.finRange 4).foldl State.clearZone s else s

/-! ### Dew point and margin (4.3) -/

/-- R68: the knot index of a temperature as used. -/
def knotIndex (t : Int) : Nat := min 39 (Int.tdiv (t + 4000) 250).toNat

/-- R68: the saturation pressure e_s at a temperature as used. -/
def Fcu.saturation (f : Fcu) (t : Int) : Nat :=
  let i := knotIndex t
  let frac := (t + 4000).toNat - 250 * i
  f.knot i + ((f.knot (i + 1) - f.knot i) * frac + 125) / 250

/-- R69: the vapour pressure e of the bowl air. -/
def vapourPressure (es rh : Nat) : Nat := (es * rh + 500) / 1000

/-- R70: the largest index 0 to 39 whose knot is at most e. -/
def Fcu.inverseIndex (f : Fcu) (e : Nat) : Nat :=
  (List.range 40).foldl (fun best i => if f.knot i ≤ e then i else best) 0

/-- R70: the dew point of a vapour pressure, and LOW_DEW. -/
def Fcu.dewPoint (f : Fcu) (e : Nat) : Int × Bool :=
  if e < f.knot 0 then (-4000, true)
  else if f.knot 40 ≤ e then (6000, false)
  else
    let i := f.inverseIndex e
    let dp := f.knot (i + 1) - f.knot i
    (-4000 + 250 * (i : Int) + ((((e - f.knot i) * 250 + dp / 2) / dp : Nat) : Int), false)

/-- R73: the raw state of a margin. -/
def FogFields.raw (p : FogFields) (m : Int) : ZoneState :=
  if m < p.fog then .fog else if m < p.act then .act else if m < p.warn then .watch else .clear

/-- R73: the state after an evaluation of a computed zone. -/
def FogFields.move (p : FogFields) (before : ZoneState) (m : Int) : ZoneState :=
  let raw := p.raw m
  match before with
  | .unknown => raw
  | state =>
    if state.code < raw.code then raw
    else if raw.code < state.code then
      match state with
      | .fog => if p.fog + p.hysteresis ≤ m then .act else .fog
      | .act => if p.act + p.hysteresis ≤ m then .watch else .act
      | .watch => if p.warn + p.hysteresis ≤ m then .clear else .watch
      | other => other
    else state

/-- The inputs of a fog zone (R66): the seen values, whether all three points are LIVE; none when a
role is unassigned. -/
def State.fogInputs (s : State) (z : Fin 4) : Option (Int × Int × Int × Bool) :=
  match s.readRole (roleFogAirT z), s.readRole (roleFogRh z), s.readRole (roleFogIceAirT z) with
  | some t, some rh, some t1 => some (t.1, rh.1, t1.1, t.2 && rh.2 && t1.2)
  | _, _, _ => none

/-- R67 to R71, R73: a computed zone. -/
def Fcu.computeZone (f : Fcu) (z : FogZone) (t rh t1 : Int) (live : Bool) : FogZone :=
  let t := clampInt (-4000) 6000 t
  let rh := clampInt 0 1000 rh
  let t1 := clampInt (-4000) 6000 t1
  let es := f.saturation t
  let e := vapourPressure es rh.toNat
  let dew := f.dewPoint e
  let m := t1 - dew.1
  { z with state := f.fields.move z.state m, degraded := !live, lowDew := dew.2, airT := t,
           rh := rh, iceT := t1, satPressure := es, pressure := e, dewPoint := dew.1, margin := m }

/-- R67: the clamps of the first step change a seen value. -/
def clampsInput (t rh t1 : Int) : Bool :=
  clampInt (-4000) 6000 t != t || clampInt 0 1000 rh != rh || clampInt (-4000) 6000 t1 != t1

/-- R65 stage 2: the evaluation of one zone. -/
def State.evalZone (s : State) (z : Fin 4) : State :=
  let old := s.fcu.zones[z]
  match s.fcu.valid, s.fogInputs z with
  | true, some (t, rh, t1, live) => s.setZone z (s.fcu.computeZone old t rh t1 live)
  | _, _ => s.setZone z old.unknown

/-- R82: the quality of a zone's samples. -/
def State.zoneQuality (s : State) (z : Fin 4) : Quality :=
  let r := s.fcu.zones[z]
  if r.state = .unknown ∨ r.degraded then .degraded
  else match s.fogInputs z with
    | some (t, rh, t1, _) => if clampsInput t rh t1 || r.lowDew then .clamped else .live
    | none => .degraded

/-! ### Stage control (4.5) -/

/-- R75: the stage demand of a zone. -/
def FogFields.zoneDemand (p : FogFields) : ZoneState → Nat
  | .clear => 0
  | .watch => 1
  | .act => p.actStage
  | .fog => 4
  | .unknown => p.blindStage

/-- R75: the zones with their stage demands, and the demand D. -/
def Fcu.formDemand (f : Fcu) : Fcu :=
  let zones := tabulate 4 (fun z => { f.zones[z] with demand := f.fields.zoneDemand f.zones[z].state })
  let largest := zones.toList.foldl (fun d z => max d z.demand) 0
  { f with zones := zones, demand := min largest f.fields.stageCap }

/-- R76: the dwell has passed since the last change of S, or that time is expired. -/
def Fcu.dwellPassed (f : Fcu) (now : Nat) : Bool :=
  match f.lastChange with
  | none => true
  | some t => t + seconds f.dwell ≤ now

/-- R76: the step of the stage counter. -/
def Fcu.stepStage (f : Fcu) (now : Nat) : Fcu :=
  if f.fields.stageCap < f.stage then
    { f with stage := f.fields.stageCap, lastChange := some now }
  else if f.demand ≠ f.stage ∧ f.dwellPassed now then
    { f with stage := if f.stage < f.demand then f.stage + 1 else f.stage - 1,
             lastChange := some now }
  else f

/-- R78: the effective stage from S, the latest published result and q_stage. -/
def effectiveStage (stage : Nat) (h : Hau) : Nat :=
  let c := h.result.classes[1]
  min stage ((c.grant + c.topUp) / h.qStage)

/-- R78, R79, R80: a recomputation of E, with STARVED and its notice, and the write of
DEHUM_STAGE. -/
def State.recomputeStage (s : State) : State :=
  let e := effectiveStage s.fcu.stage s.hau
  let starved : Bool := e < s.fcu.stage
  let raises := starved && !s.fcu.starved
  let stage := s.fcu.stage
  let s := s.setFcu { s.fcu with effective := e, starved := starved }
  let s := if raises then s.raise .fogStarved stage e else s
  s.writeRole roleDehumStage e

/-- R81: the destratification fan output. -/
def Fcu.fanOutput (f : Fcu) : Nat := if f.zones.toList.all (fun z => z.state == .clear) then 0 else 1

/-- R81: the fan output is recorded and written. -/
def State.writeFan (s : State) : State :=
  let fan := s.fcu.fanOutput
  (s.setFcu { s.fcu with fan := some fan }).writeRole roleDestratFan fan

/-- R72, R88: the active profile, or none. -/
def State.activeProfile (s : State) : Option Profile := s.prf.active.map (fun i => s.prf.profiles[i])

/-- R72: the profile fields that FCU takes. -/
def State.fogFields (s : State) : FogFields :=
  match s.activeProfile with
  | some p => ⟨p.warn, p.act, p.fog, p.hysteresis, p.actStage, p.stageCap, p.blindStage⟩
  | none => .noProfile

/-- R82: the samples of one zone. -/
def State.sampleZone (s : State) (z : Fin 4) : State :=
  let r := s.fcu.zones[z]
  let q := s.zoneQuality z
  (s.sample (.dewPoint z) r.dewPoint q).sample (.margin z) r.margin q

/-- R65, stages 1 to 3: the profile fields taken, the zones evaluated, D formed and S stepped. -/
def State.fogStages (s : State) : State :=
  let s := s.setFcu { s.fcu with fields := s.fogFields }
  let s := (List.finRange 4).foldl State.evalZone s
  s.setFcu (s.fcu.formDemand.stepStage s.now)

/-- R65: one evaluation of FCU; the next falls 10 s after the moment this one was due. R82 leaves the
order of the samples open; they go zone 0 to 3, dew point before margin (log 30). -/
def State.fogEvaluation (s : State) : State :=
  let s := s.comesAt s.fcu.nextEval
  let s := s.setFcu { s.fcu with nextEval := s.fcu.nextEval + seconds 10 }
  let stage := s.fcu.stage
  let s := s.fogStages
  let s := if s.fcu.stage = stage then s else s.recomputeStage
  (List.finRange 4).foldl State.sampleZone s.writeFan

end Sys2Proof.Machine
end

