-- ==== Sys2Proof/Machine/Valves.lean ====
section
/-! DEFINITION. Valve drives (06): seeks, home runs, the closed stop, the hand switch, drive faults
and their clearing. An operation that only concerns the channel is a function on `Valve`; what it
raises and samples stands beside it on `State`. -/

namespace Sys2Proof.Machine

/-- The channel of a state. -/
def State.valve (s : State) (c : Fin 4) : Valve := s.vdu.valves[c]

/-- The state with another channel. -/
def State.setValve (s : State) (c : Fin 4) (v : Valve) : State :=
  s.setVdu { s.vdu with valves := s.vdu.valves.set c v }

/-- R112: the channel hands TCU a sample of its position. -/
def State.samplePosition (s : State) (c : Fin 4) (q : Quality) : State :=
  s.sample (.position c) (s.valve c).position q

/-- R117, R118: the search limit, one and one eighth of the travel. -/
def ValveConfig.searchLimit (c : ValveConfig) : Nat := c.travel + c.travel / 8

/-- R111: the ranges of a configuration record; flags are judged on their codes. -/
def valveFieldsOk : List Nat → Bool
  | [travel, period, _, _, autoHome, notify] =>
    decide (16 ≤ travel) && decide (travel ≤ 4000) && decide (2 ≤ period) && decide (period ≤ 255)
      && decide (autoHome ≤ 1) && decide (notify ≤ 1)
  | _ => false

/-! ### Motion -/

/-- R114: a seek toward a target starts. -/
def Valve.startSeek (v : Valve) (now target : Nat) : Valve :=
  { v with state := .seeking, target := target, toOpen := decide (v.position < target),
           remaining := if v.position < target then target - v.position else v.position - target,
           stepEnd := now + millis v.config.period }

/-- R114: the channel after a counted step: one nearer the target. -/
def Valve.step (v : Valve) : Valve :=
  { v with position := if v.position < v.target then v.position + 1
                       else if v.target < v.position then v.position - 1 else v.position,
           remaining := v.remaining - 1 }

/-- R115: the channel enters SETTLING for its settle time. -/
def Valve.settle (v : Valve) (now : Nat) : Valve :=
  { v with state := .settling, stepEnd := now + millis (100 * v.config.settle) }

/-- The next step of a motion begins. -/
def Valve.nextStep (v : Valve) (now : Nat) : Valve :=
  { v with stepEnd := now + millis v.config.period }

/-- R112, R121, R122: motion stops, the slot empties, the target becomes equal to the position, in a
state that is out of service. -/
def Valve.rest (v : Valve) (state : ValveState) : Valve :=
  { v with state := state, slot := .empty, target := v.position }

/-- R115: VALVE_DONE at an end of SETTLING, when the notice flag is set. -/
def State.raiseDone (s : State) (c : Fin 4) : State :=
  let v := s.valve c
  if v.config.notify then s.raise .valveDone c.val v.position else s

/-- R117: the end of a home run at the moment it starts: position 0, its sample, SETTLING. The slot
is empty, so a settle time of 0 ends at once in READY (R115). -/
def State.finishHome (s : State) (c : Fin 4) : State :=
  let s := s.setValve c { s.valve c with position := 0 }
  let s := s.samplePosition c .live
  let s := s.setValve c ((s.valve c).settle s.now)
  let v := s.valve c
  if v.config.settle = 0 then (s.raiseDone c).setValve c { v with state := .ready } else s

/-- R117: the search is over: the seat steps follow, or the end of the run. -/
def State.seatHome (s : State) (c : Fin 4) : State :=
  let v := s.valve c
  if v.config.seat = 0 then s.finishHome c
  else s.setValve c ({ v with state := .homing (.seat v.config.seat) }.nextStep s.now)

/-- R117: a home run starts. With CLOSED asserted the search is over before it starts. -/
def State.startHome (s : State) (c : Fin 4) : State :=
  let v := s.valve c
  let s := s.setValve c ({ v with state := .homing .search, toOpen := false, target := 0,
                                  searchCount := 0, slot := .empty }.nextStep s.now)
  if v.closed then s.seatHome c else s

/-- R119: auto-home acts at the moment the channel enters UNHOMED. -/
def State.autoHome (s : State) (c : Fin 4) : State :=
  let v := s.valve c
  if v.state = .unhomed ∧ v.config.autoHome then s.startHome c else s

/-- R119: the channel enters UNHOMED, and auto-home acts. -/
def State.enterUnhomed (s : State) (c : Fin 4) : State :=
  (s.setValve c ((s.valve c).rest .unhomed)).autoHome c

/-- R115: the end of SETTLING acts on the pending slot, which is empty afterwards. -/
def State.endSettling (s : State) (c : Fin 4) : State :=
  let s := s.raiseDone c
  let v := s.valve c
  match v.slot with
  | .empty => s.setValve c { v with state := .ready }
  | .target t =>
    if t = v.position then s.setValve c { v with state := .ready, slot := .empty }
    else s.setValve c ({ v with slot := .empty }.startSeek s.now t)
  | .home => s.startHome c

/-- R115: the channel enters SETTLING; a settle time of 0 ends it at once. -/
def State.enterSettling (s : State) (c : Fin 4) : State :=
  let s := s.setValve c ((s.valve c).settle s.now)
  if (s.valve c).config.settle = 0 then s.endSettling c else s

/-- R117: the end of a home run whose slot may hold a target: the position becomes 0, its sample is
handed on, and SETTLING follows. -/
def State.completeHome (s : State) (c : Fin 4) : State :=
  let s := s.setValve c { s.valve c with position := 0 }
  (s.samplePosition c .live).enterSettling c

/-- R118, R122: the channel enters FAULT with a cause and raises VALVE_FAULT. -/
def State.valveFault (s : State) (c : Fin 4) (cause : FaultCause) (detail : Int) : State :=
  (s.setValve c { (s.valve c).rest .fault with cause := cause }).raise .valveFault c.val detail

/-- R113: a target reaches a channel. -/
def State.valveTarget (s : State) (c : Fin 4) (target : Nat) : State :=
  let v := s.valve c
  let t := min v.config.travel target
  match v.state with
  | .ready => if t = v.position then s else s.setValve c (v.startSeek s.now t)
  | .seeking => s.setValve c { v with slot := .target t }
  | .settling => s.setValve c { v with slot := .target t }
  | .homing _ => s.setValve c { v with slot := .target t }
  | .unhomed => s
  | .manual => s
  | .fault => s

/-! ### Ends of steps and of settling -/

/-- R114: a counted step of a seek ends. -/
def State.seekStepEnd (s : State) (c : Fin 4) : State :=
  let v := s.valve c
  if v.state ≠ .seeking then s
  else
    let s := s.comesAt v.stepEnd
    let s := s.setValve c v.step
    let s := s.samplePosition c .live
    let v := s.valve c
    if v.position = v.target then s.enterSettling c else s.setValve c (v.nextStep s.now)

/-- R117, R118: a search step of a home run ends. -/
def State.searchStepEnd (s : State) (c : Fin 4) : State :=
  let v := s.valve c
  match v.state with
  | .homing .search =>
    let s := s.comesAt v.stepEnd
    let v := { v with searchCount := v.searchCount + 1 }
    let s := s.setValve c v
    if v.config.searchLimit ≤ v.searchCount then s.valveFault c .homeNotFound 2
    else s.setValve c (v.nextStep s.now)
  | .homing .searchEnding =>
    let s := s.comesAt v.stepEnd
    let v := { v with searchCount := v.searchCount + 1 }
    if v.config.seat = 0 then (s.setValve c v).completeHome c
    else s.setValve c ({ v with state := .homing (.seat v.config.seat) }.nextStep s.now)
  | _ => s

/-- R117: a seat step of a home run ends. -/
def State.seatStepEnd (s : State) (c : Fin 4) : State :=
  let v := s.valve c
  match v.state with
  | .homing (.seat left) =>
    let s := s.comesAt v.stepEnd
    if left ≤ 1 then s.completeHome c
    else s.setValve c ({ v with state := .homing (.seat (left - 1)) }.nextStep s.now)
  | _ => s

/-- R115: the settle time of a channel ends. -/
def State.settleEnd (s : State) (c : Fin 4) : State :=
  let v := s.valve c
  if v.state = .settling then (s.comesAt v.stepEnd).endSettling c else s

/-! ### Line events -/

/-- Line changes are events of the channels while the part works and the channels have been placed
by their lines (R125, R182); else only the level changes. -/
def State.linesAct (s : State) : Bool := s.hold == .working && s.vdu.linesPlaced

/-- R120: EARLY_CLOSE: position and target 0, the slot kept, SETTLING. -/
def State.earlyClose (s : State) (c : Fin 4) : State :=
  let s := s.setValve c { s.valve c with position := 0, target := 0 }
  let s := s.raise .valveFault c.val 3
  (s.samplePosition c .degraded).enterSettling c

/-- R120: STOP_MISMATCH: UNHOMED, the slot emptied; auto-home acts. -/
def State.stopMismatch (s : State) (c : Fin 4) : State :=
  (s.raise .valveFault c.val 4).enterUnhomed c

/-- R120: what an assertion of CLOSED does by state and position. -/
def State.closedActs (s : State) (c : Fin 4) : State :=
  let v := s.valve c
  match v.state with
  | .homing .search => s.setValve c { v with state := .homing .searchEnding }
  | .homing _ => s
  | .seeking =>
    if v.position = 0 then s else if v.toOpen then s.stopMismatch c else s.earlyClose c
  | .settling => if v.position = 0 then s else s.stopMismatch c
  | .ready => if v.position = 0 then s else s.stopMismatch c
  | .unhomed => s
  | .manual => s
  | .fault => s

/-- R120: CLOSED asserts. -/
def State.closedAssert (s : State) (c : Fin 4) : State :=
  let v := s.valve c
  if v.closed then s
  else
    let s := s.setValve c { v with closed := true }
    if s.linesAct then s.closedActs c else s

/-- R120: CLOSED releases, which acts in no state. -/
def State.closedRelease (s : State) (c : Fin 4) : State :=
  s.setValve c { s.valve c with closed := false }

/-- R121: the channel enters MANUAL. -/
def Valve.toManual (v : Valve) : Valve := { v.rest .manual with cause := .none }

/-- R121: MAN asserts: MANUAL from any state. -/
def State.manAssert (s : State) (c : Fin 4) : State :=
  let v := s.valve c
  if v.man then s
  else
    let v := { v with man := true }
    s.setValve c (if s.linesAct then v.toManual else v)

/-- R121: MAN releases: UNHOMED, then FAULT if DFLT is asserted, else auto-home. -/
def State.manRelease (s : State) (c : Fin 4) : State :=
  let v := { s.valve c with man := false }
  if s.linesAct && v.state == .manual then
    let s := s.setValve c (v.rest .unhomed)
    if v.dflt then s.valveFault c .driveFault 1 else s.autoHome c
  else s.setValve c v

/-- R122: DFLT asserts: FAULT in any state but MANUAL. -/
def State.dfltAssert (s : State) (c : Fin 4) : State :=
  let v := s.valve c
  if v.dflt then s
  else
    let s := s.setValve c { v with dflt := true }
    if s.linesAct && v.state != .manual then s.valveFault c .driveFault 1 else s

/-- R122: DFLT releases, which changes nothing but the level. -/
def State.dfltRelease (s : State) (c : Fin 4) : State :=
  s.setValve c { s.valve c with dflt := false }

/-! ### Clearing a fault (R123) -/

/-- R123: a FAULT channel starts its 10 ms pulse. -/
def Valve.startPulse (v : Valve) (now : Nat) : Valve :=
  { v with clearing := true, pulseEnd := now + millis 10 }

/-- R123: the channel is judged at the end of the pulse; whether the request is answered DONE. -/
def State.judgeCleared (s : State) (c : Fin 4) : Bool × State :=
  let v := { s.valve c with clearing := false }
  if v.state = .fault then
    if v.dflt then (false, s.setValve c { v with cause := .driveFault })
    else (true, (s.setValve c { v with cause := .none }).enterUnhomed c)
  else (false, s.setValve c v)

/-! ### Placing by the lines (R125, R126) -/

/-- R125: a channel is placed by its lines after power-on. With neither line asserted it is UNHOMED: one
that a request has taken out of UNHOMED enters it again, and auto-home acts (R119; log 12). -/
def State.placeValve (s : State) (c : Fin 4) : State :=
  let v := s.valve c
  if v.man then s.setValve c v.toManual
  else if v.dflt then s.valveFault c .driveFault 1
  else if v.state = .unhomed then s
  else s.enterUnhomed c

/-- R125: the inputs have passed their filter after power-on. The channels are placed in number order,
which the rule leaves open and the record of VALVE_FAULT shows (log 35). -/
def State.placeLines (s : State) : State :=
  if s.vdu.linesPlaced then s
  else
    let s := s.comesAt s.vdu.linesAt
    let s := s.setVdu { s.vdu with linesPlaced := true }
    (List.finRange 4).foldl State.placeValve s

/-- R126: the state of a channel after a line or supervisor reset, before its lines are read. -/
def Valve.afterReset (v : Valve) : Valve :=
  let state : ValveState := match v.state with
    | .manual => .manual
    | .fault => .fault
    | .ready => .ready
    | _ => .unhomed
  { v.rest state with remaining := 0, searchCount := 0, clearing := false }

/-- R126: MAN and DFLT are read after a line or supervisor reset, and auto-home acts. -/
def State.readLines (s : State) (c : Fin 4) : State :=
  let v := s.valve c
  if v.man then s.setValve c v.toManual
  else
    let v := if v.state = .manual then v.rest .unhomed else v
    let s := s.setValve c v
    if v.dflt then s.valveFault c .driveFault 1 else s.autoHome c

/-- R126: the lines of every channel are read, in number order, which the rule leaves open and the record
of VALVE_FAULT shows (log 35). A reset before the placing of R125 stands for it: no placing follows
(log 32). -/
def State.readAllLines (s : State) : State :=
  let s := s.setVdu { s.vdu with linesPlaced := true }
  (List.finRange 4).foldl State.readLines s

/-! ### Configuration and HOME_VALVE -/

/-- R111: the write is refused BUSY in HOMING, SEEKING and SETTLING. -/
def Valve.busy (v : Valve) : Bool := v.state.isHoming || v.state == .seeking || v.state == .settling

/-- R111: a taken configuration write: the record is stored, position and target are clamped, a
changed position is sampled as CLAMPED, and a set auto-home flag starts a home run in UNHOMED. -/
def State.configureValve (s : State) (c : Fin 4) (config : ValveConfig) : State :=
  let v := s.valve c
  let moved := min v.position config.travel
  let s := s.setValve c { v with config := config, position := moved,
                                 target := min v.target config.travel }
  let s := if moved = v.position then s else s.samplePosition c .clamped
  s.autoHome c

end Sys2Proof.Machine
end

