-- ==== Sys2Proof/Machine/Heat.lean ====
section
/-! DEFINITION. Heat recovery and spectator heating (05): the budget, the demands, the allocation,
the boiler top-up, the published result and what follows from it. -/

namespace Sys2Proof.Machine

/-! ### Inputs of an evaluation (R87, R88) -/

/-- The profile fields and the boiler level in force at one evaluation (R88). -/
structure HeatFields where
  active     : Bool
  setpoint   : Int
  heat       : Nat
  occupied   : Nat
  unoccupied : Nat
  mask       : Nat
  melt       : Nat
  level      : Nat
deriving DecidableEq, Repr

/-- R88, R157: the fields that HAU takes; `melt` is the snow-melt heat in force, 0 when disabled. -/
def State.heatFields (s : State) : HeatFields :=
  match s.activeProfile with
  | some p =>
    { active := true, setpoint := p.subfloorSetpoint, heat := p.subfloorHeat,
      occupied := p.occupied, unoccupied := p.unoccupied, mask := p.mask,
      melt := if p.meltEnable = 1 then p.meltHeat else 0, level := min p.boilerLevel s.prf.limit }
  | none => ⟨false, 0, 0, 0, 0, 0, 0, 0⟩

/-! ### Recovered heat and the budget (5.3) -/

/-- R89: F × K × D / 100,000 before the clamp, 0 when F or D is not above 0. -/
def rawHeat (flow : Int) (k : Nat) (diff : Int) : Nat :=
  if flow ≤ 0 ∨ diff ≤ 0 then 0 else flow.toNat * k * diff.toNat / 100000

/-- R89: the recovered heat Q, whether the clamp acted, and the loop status. -/
def State.recovered (s : State) : Nat × Bool × LoopStatus :=
  match s.readRole roleLoopFlow, s.readRole roleLoopSupplyT, s.readRole roleLoopReturnT with
  | some f, some sup, some ret =>
    let q := rawHeat f.1 s.hau.k (sup.1 - ret.1)
    (min q 65535, decide (65535 < q), if f.2 && sup.2 && ret.2 then .complete else .degraded)
  | _, _, _ => (0, false, .unassigned)

/-- R90: the filtered budget after an evaluation. -/
def filterBudget (first : Bool) (budget q : Nat) : Nat :=
  if first then q else ((budget : Int) + Int.tdiv ((q : Int) - budget) 8).toNat

/-! ### Spectator demand (5.4) -/

/-- R91: the lighting gain of a stand zone. -/
def State.lightingGain (s : State) (z : Fin 8) : Nat :=
  (List.finRange 256).foldl (fun sum ch =>
    let e := s.hau.loads[ch]
    if e.zone = some z then sum + s.cue.levelMap[ch] * e.weight else sum) 0 / 2550

/-- R92: the zone takes part in class 2. -/
def State.zoneTakesPart (s : State) (z : Fin 8) : Bool :=
  (s.ptw.holder (roleZoneT z)).isSome
    && match s.ptw.holder (roleZoneValve z) with
       | some i => (s.runtime i).overrideAt.isNone
       | none => false

/-- R92: a zone that takes part is DEGRADED when its ZONE_T point is not LIVE. -/
def State.zoneDegraded (s : State) (z : Fin 8) : Bool :=
  s.zoneTakesPart z && match s.readRole (roleZoneT z) with
    | some x => !x.2
    | none => false

/-- R93: the setpoint of a zone by the occupancy mask. -/
def HeatFields.zoneSetpoint (p : HeatFields) (z : Fin 8) : Int :=
  if p.mask.testBit z.val then p.occupied else p.unoccupied

/-- R93: the demand of a zone before its exclusion is judged. -/
def zoneDemandOf (z : StandZone) (setpoint temperature : Int) (gain : Nat) : Nat :=
  (clampInt 0 z.maxHeat (Int.tdiv ((z.gain : Int) * (setpoint - temperature)) 100 - gain)).toNat

/-- R88, R92, R93: the demand of a zone. -/
def State.zoneDemand (s : State) (p : HeatFields) (z : Fin 8) : Nat :=
  match s.zoneTakesPart z && p.active, s.readRole (roleZoneT z) with
  | true, some x => zoneDemandOf s.hau.zones[z] (p.zoneSetpoint z) x.1 (s.lightingGain z)
  | _, _ => 0

/-! ### Class demands (5.5) -/

/-- R94: the subfloor call after an evaluation. -/
def State.subfloorCall (s : State) (p : HeatFields) : Bool :=
  match s.readRole roleSubfloorT with
  | none => true
  | some t =>
    if !p.active then true
    else if !s.hau.call && decide (t.1 < p.setpoint) then true
    else if s.hau.call && decide (p.setpoint + 50 ≤ t.1) then false
    else s.hau.call

/-- R94: the subfloor is DEGRADED when its point is not LIVE. -/
def State.subfloorDegraded (s : State) : Bool :=
  match s.readRole roleSubfloorT with
  | some t => !t.2
  | none => false

/-! ### Allocation (5.6, 5.7) -/

/-- What an allocation works from, each thing read once (R87). -/
structure HeatInputs where
  heat             : Nat
  clamped          : Bool
  loop             : LoopStatus
  budget           : Nat
  level            : Nat
  boilerCap        : Nat
  call             : Bool
  subfloorDegraded : Bool
  demands          : Vector Nat 4
  inService        : Vector Bool 4
  travels          : Vector Nat 4
  caps             : Vector Nat 4
  takesPart        : Vector Bool 8
  degraded         : Vector Bool 8
  gains            : Vector Nat 8
  zoneDemands      : Vector Nat 8
  zoneMax          : Vector Nat 8
deriving DecidableEq, Repr

/-- The sum of the elements of a vector. -/
def total {n : Nat} (v : Vector Nat n) : Nat := v.toList.foldl (· + ·) 0

/-- R97: the grant of class 0, 1 or 3 from the heat remaining. -/
def classGrant (inService : Bool) (demand remaining : Nat) : Nat :=
  if inService then min demand remaining else 0

/-- R98: the class-2 cap. -/
def spectatorCap (inService : Bool) (d2 remaining : Nat) : Nat :=
  if inService then min d2 remaining else 0

/-- R98: the grant of one zone. -/
def zoneGrant (demand cap d2 : Nat) : Nat :=
  if d2 = 0 then 0 else if cap = d2 then demand else demand * cap / d2

/-- R100: the top-up of class c, which the boiler serves when c is below the level in force. -/
def classTopUp (served inService : Bool) (demand grant remaining : Nat) : Nat :=
  if served && inService then min (demand - grant) remaining else 0

/-- R102: the target of a valve, rounded half up, at most its travel. -/
def valveTargetOf (heat travel cap : Nat) : Nat :=
  if cap = 0 then 0 else min travel ((heat * travel + cap / 2) / cap)

/-- R103: the output of a zone valve in per mille, rounded half up, at most 1000. -/
def zoneOutputOf (grant maxHeat : Nat) : Nat :=
  if maxHeat = 0 then 0 else min 1000 ((grant * 1000 + maxHeat / 2) / maxHeat)

/-- R105: what a class lacks of its demand. -/
def ClassResult.shortfall (c : ClassResult) : Nat := c.demand - c.grant - c.topUp

/-- R96 to R105: the allocation result of one set of inputs. -/
def HeatInputs.allocate (x : HeatInputs) : AllocationResult :=
  let g0 := classGrant x.inService[0] x.demands[0] x.budget
  let left0 := x.budget - g0
  let g1 := classGrant x.inService[1] x.demands[1] left0
  let left1 := left0 - g1
  let d2 := total x.zoneDemands
  let cap := spectatorCap x.inService[2] d2 left1
  let zoneGrants := tabulate 8 (fun z => zoneGrant x.zoneDemands[z] cap d2)
  let g2 := total zoneGrants
  let left2 := left1 - g2
  let g3 := classGrant x.inService[3] x.demands[3] left2
  let top0 := classTopUp (decide (0 < x.level)) x.inService[0] x.demands[0] g0 x.boilerCap
  let top1 := classTopUp (decide (1 < x.level)) x.inService[1] x.demands[1] g1 (x.boilerCap - top0)
  let grants : Vector Nat 4 := #v[g0, g1, g2, g3]
  let tops : Vector Nat 4 := #v[top0, top1, 0, 0]
  let classes := tabulate 4 (fun c =>
    ({ demand := x.demands[c], inService := x.inService[c], grant := grants[c], topUp := tops[c],
       target := valveTargetOf (grants[c] + tops[c]) x.travels[c] x.caps[c] } : ClassResult))
  { heat := x.heat, clamped := x.clamped, loop := x.loop, budget := x.budget, level := x.level,
    boilerCommand := top0 + top1, boilerCap := x.boilerCap, rejected := left2 - g3,
    short := decide (0 < x.demands[0] - g0 - top0) || decide (0 < x.demands[1] - g1 - top1),
    call := x.call, subfloorDegraded := x.subfloorDegraded, classes := classes,
    zones := tabulate 8 (fun z =>
      { takesPart := x.takesPart[z], degraded := x.degraded[z], gain := x.gains[z],
        demand := x.zoneDemands[z], grant := zoneGrants[z],
        output := zoneOutputOf zoneGrants[z] x.zoneMax[z] }) }

/-- R87, stages 1 to 4: what one evaluation reads. -/
def State.heatInputs (s : State) : HeatInputs :=
  let p := s.heatFields
  let q := s.recovered
  let call := s.subfloorCall p
  let zoneDemands := tabulate 8 (s.zoneDemand p)
  { heat := q.1, clamped := q.2.1, loop := q.2.2,
    budget := filterBudget s.hau.first s.hau.budget q.1, level := p.level,
    boilerCap := s.hau.boilerCap, call := call, subfloorDegraded := s.subfloorDegraded,
    demands := #v[if call then p.heat else 0, s.fcu.stage * s.hau.qStage, total zoneDemands, p.melt],
    inService := tabulate 4 (fun c => (s.valve c).inService),
    travels := tabulate 4 (fun c => (s.valve c).config.travel), caps := s.hau.caps,
    takesPart := tabulate 8 s.zoneTakesPart, degraded := tabulate 8 s.zoneDegraded,
    gains := tabulate 8 s.lightingGain, zoneDemands := zoneDemands,
    zoneMax := tabulate 8 (fun z => s.hau.zones[z].maxHeat) }

/-! ### The published result (5.8) -/

/-- R90, R94, R101: HAU replaces the latest result whole and tells FCU of it. -/
def State.publish (s : State) (r : AllocationResult) : State :=
  (s.setHau { s.hau with budget := r.budget, first := false, call := r.call,
                         result := r }).recomputeStage

/-- R104: the boiler command is written, and BOILER_TOPUP raised when it leaves 0. -/
def State.writeBoiler (s : State) : State :=
  let r := s.hau.result
  let s' := s.writeRole roleBoilerCmd r.boilerCommand
  let s' := if r.boilerCommand ≠ 0 ∧ s.hau.prevBoiler = 0 then
      s'.raise .boilerTopup r.level r.boilerCommand else s'
  s'.setHau { s'.hau with prevBoiler := r.boilerCommand }

/-- R105: HEAT_SHORT is raised when the short condition begins. -/
def State.raiseShort (s : State) (wasShort : Bool) : State :=
  let r := s.hau.result
  if r.short && !wasShort then
    s.raise .heatShort (if 0 < r.classes[0].shortfall then 0 else 1)
      ((r.classes[0].shortfall + r.classes[1].shortfall : Nat))
  else s

/-- R102: each valve channel is handed its target. -/
def State.handTargets (s : State) : State :=
  (List.finRange 4).foldl (fun s c => s.valveTarget c s.hau.result.classes[c].target) s

/-- R103: each zone valve output is written. The order of the writes is left open; they go zone 0 to 7
(log 37). -/
def State.writeZoneValves (s : State) : State :=
  (List.finRange 8).foldl
    (fun s z => s.writeRole (roleZoneValve z) s.hau.result.zones[z].output) s

/-- R106: the quality of a sample of the latest result. -/
def AllocationResult.quality (r : AllocationResult) (alsoDegraded : Bool) : Quality :=
  if r.loop = .degraded ∨ alsoDegraded then .degraded else if r.clamped then .clamped else .live

/-- R106: some zone that takes part is DEGRADED. -/
def AllocationResult.zonesDegraded (r : AllocationResult) : Bool :=
  r.zones.toList.any (fun z => z.takesPart && z.degraded)

/-- R106: the samples of Q_f and of each grant. R87, R106 and R162 leave their order open; they go Q_f
first, then the grants of class 0 to 3, which the record of CAPTURE_END shows (R171; log 28). -/
def State.sampleResult (s : State) : State :=
  let r := s.hau.result
  let s := s.sample .budget r.budget (r.quality false)
  let s := s.sample (.grant 0) r.classes[0].grant (r.quality r.subfloorDegraded)
  let s := s.sample (.grant 1) r.classes[1].grant (r.quality false)
  let s := s.sample (.grant 2) r.classes[2].grant (r.quality r.zonesDegraded)
  s.sample (.grant 3) r.classes[3].grant (r.quality false)

/-- R87, stages 7 and 8: what follows from the published result. R87, R103 and R104 leave open in which
order the output points are written and join the pending output list (R53); the zone valves go first, 0 to
7, and the boiler command last (log 37). -/
def State.followResult (s : State) (wasShort : Bool) : State :=
  ((s.handTargets.writeZoneValves.writeBoiler).raiseShort wasShort).sampleResult

/-- R87: one evaluation of HAU; the next falls 2 s after the moment this one was due. -/
def State.heatEvaluation (s : State) : State :=
  let s := s.comesAt s.hau.nextEval
  let s := s.setHau { s.hau with nextEval := s.hau.nextEval + seconds 2 }
  let wasShort := s.hau.result.short
  (s.publish s.heatInputs.allocate).followResult wasShort

end Sys2Proof.Machine
end

