-- ==== Sys2Proof/Machine/Line.lean ====
section
/-! DEFINITION. The Point Line (01): characters as samples and as line bits, the check, the layout
of telegrams, and the hand-over of a telegram to a transmitter. -/

namespace Sys2Proof.Machine

/-! ### Characters (1.1) -/

/-- A character as a receiver takes it: its data bits, mark bit and stop bit (R2). -/
structure Character where
  data : Byte
  mark : Bool
  stop : Bool
deriving DecidableEq, Repr

/-- R2: the search for a start bit over the samples of a line, from where the receiver looks. `prev` is
the sample before, `skipped` how many samples have gone by, and `wait` how many more belong to a fall
whose eighth sample reads 1: that false start is ignored, and the search goes on from its eighth sample.
Answers how many samples lie before the start bit, and the samples from its first on. -/
def findStart (prev : Bool) (skipped wait : Nat) : List Bool → Option (Nat × List Bool)
  | [] => none
  | x :: rest =>
    match wait with
    | w + 1 => findStart x (skipped + 1) w rest
    | 0 =>
      if prev && !x then
        match rest[6]? with
        | some true => findStart x (skipped + 1) 6 rest
        | some false => some (skipped, x :: rest)
        | none => none
      else findStart x (skipped + 1) 0 rest

/-- R2: a bit time is taken as the majority of its seventh, eighth and ninth samples. -/
def majorityBit (samples : List Bool) (bit : Nat) : Bool :=
  let a := samples.getD (16 * bit + 6) true
  let b := samples.getD (16 * bit + 7) true
  let c := samples.getD (16 * bit + 8) true
  (a && b) || (a && c) || (b && c)

/-- R2: the data bits, least significant first, in bit times 2 to 9. -/
def dataBits (samples : List Bool) : Nat :=
  (List.range 8).foldr (fun j n => 2 * n + (majorityBit samples (j + 1)).toNat) 0

/-- R2: the character that the samples of a line bring, with how many samples lie before its start bit;
none while its stop bit has not come to its ninth sample. A fall lies between two samples that the
receiver looks at (log 9). -/
def takeCharacter (samples : List Bool) : Option (Nat × Character) :=
  match findStart false 0 0 samples with
  | none => none
  | some (skipped, bits) =>
    if bits.length < 169 then none
    else some (skipped, ⟨byteOf (dataBits bits), majorityBit bits 9, majorityBit bits 10⟩)

/-- R1: a character as its eleven line bits, the start bit in bit 0. -/
def lineBits (data : Byte) (mark : Bool) : BitVec 11 :=
  BitVec.ofNat 11 (2 * data.toNat + (if mark then 512 else 0) + 1024)

/-- Eleven steady line bits as 16 samples each, after the eight samples that are left of the stop bit
before (R2): what a receiver sees of a character that follows without idle time. -/
def samplesOf (bits : BitVec 11) : List Bool :=
  List.replicate 8 true ++ (List.range 11).flatMap (fun j => List.replicate 16 (bits.getLsbD j))

/-! ### The check and the layout of telegrams (1.2, 1.3) -/

/-- R4: one bit of the code with generator x^16 + x^12 + x^5 + 1. -/
def crcBit (crc : BitVec 16) : BitVec 16 :=
  if crc.msb then (crc <<< 1) ^^^ 0x1021#16 else crc <<< 1

/-- R4: one byte, most significant bit first. -/
def crcByte (crc : BitVec 16) (b : Byte) : BitVec 16 :=
  (List.range 8).foldl (fun c _ => crcBit c) (crc ^^^ (b.setWidth 16 <<< 8))

/-- R4: the check over a list of bytes, initial value FFFFh, no final inversion. -/
def crc16 (bytes : List Byte) : BitVec 16 := bytes.foldl crcByte 0xFFFF#16

/-- Positions 1 to 4 + L of a telegram (1.2). -/
def Telegram.head (t : Telegram) : List Byte :=
  t.dst :: t.src :: t.kind :: byteOf t.body.length :: t.body

/-- All 6 + L bytes of a telegram, its check last, high byte first (R4). -/
def Telegram.bytes (t : Telegram) : List Byte := t.head ++ bytes16 (crc16 t.head).toNat

/-- R1: the characters of a telegram, the mark bit set on the first alone. -/
def Telegram.chars (t : Telegram) : List (BitVec 11) :=
  match t.bytes with
  | first :: rest => lineBits first true :: rest.map (fun b => lineBits b false)
  | [] => []

/-- The bytes taken so far make a whole telegram of 6 + L characters (1.5). -/
def wholeTelegram (got : List Byte) : Bool :=
  match got with
  | _ :: _ :: _ :: length :: rest => rest.length == length.toNat + 2
  | _ => false

/-- R4: the two last bytes are the check of those before them. -/
def checkAgrees (got : List Byte) : Bool :=
  got.drop (got.length - 2) == bytes16 (crc16 (got.take (got.length - 2))).toNat

/-- The telegram in the bytes of a whole telegram. -/
def telegramOf (got : List Byte) : Telegram :=
  match got with
  | dst :: src :: kind :: length :: rest => ⟨dst, src, kind, rest.take length.toNat⟩
  | _ => ⟨0, 0, 0, []⟩

/-! ### Kinds (R5) -/

/-- POLL. -/
def kindPoll : Byte := 0x01#8
/-- READING. -/
def kindReading : Byte := 0x02#8
/-- COMMAND. -/
def kindCommand : Byte := 0x03#8
/-- LEVELS. -/
def kindLevels : Byte := 0x04#8
/-- REQUEST. -/
def kindRequest : Byte := 0x10#8
/-- REPLY. -/
def kindReply : Byte := 0x11#8
/-- NOTICE. -/
def kindNotice : Byte := 0x12#8

/-- The part's own station address as a byte: the source of every telegram the part builds (R3). -/
def State.ownAddress (s : State) : Byte := byteOf s.mgr.address

/-! ### Transmission (R11) -/

/-- R11: how long a telegram of 6 + L characters occupies the line. -/
def Line.duration (l : Line) (t : Telegram) : Nat := (6 + t.body.length) * l.charTime

/-- R11: the line with a telegram in transmission from `now`. -/
def Line.send (l : Line) (now : Nat) (t : Telegram) (kind : SendKind) : Line :=
  { l with sending := some ⟨t, kind, t.chars, now, l.divisor, now + l.duration t⟩ }

/-- R1: the level of the transmit line during a transmission: the bit on the line `now`. -/
def Sending.level (x : Sending) (now : Nat) : Bool :=
  let k := (now - x.beginAt) / (16 * (x.divisor + 1))
  match x.chars[k / 11]? with
  | some c => c.getLsbD (k % 11)
  | none => true

/-- R1, R11: the level of a port's transmit line: at rest 1, else the bit of the transmission. -/
def Line.txLevel (l : Line) (now : Nat) : Bool :=
  match l.sending with
  | some x => x.level now
  | none => true

/-- R12, R14: a field port starts to transmit: TXE asserts, a telegram being assembled is abandoned
without counting, and the port is no longer quiet. -/
def FieldPort.send (f : FieldPort) (now : Nat) (t : Telegram) (kind : SendKind) : FieldPort :=
  { f with line := { f.line with receiver := .hunt }.send now t kind, quiet := false }

/-- A telegram is handed to the transmitter of a segment. -/
def State.sendField (s : State) (g : Segment) (t : Telegram) (kind : SendKind) : State :=
  s.setField g ((s.field g).send s.now t kind)

/-- A telegram is handed to the supervisor link transmitter. -/
def State.sendUp (s : State) (t : Telegram) (kind : SendKind) : State :=
  s.setSupervisor { s.supervisor with line := s.supervisor.line.send s.now t kind }

end Sys2Proof.Machine
end

