-- ==== Sys2Proof/Machine/Profiles.lean ====
section
/-! DEFINITION. Event profiles (08): the checks of a profile write, the rewrite of the active
profile, selection by request and by point. -/

namespace Sys2Proof.Machine

/-- A value lies in a range, bounds included. -/
def within (low high v : Int) : Bool := decide (low ≤ v) && decide (v ≤ high)

/-- R150: the checks of a profile write: the ranges of 8.1, W > A > F, act stage at most the cap. -/
def Profile.ok (p : Profile) : Bool :=
  within (-2000) 2000 p.subfloorSetpoint && decide (p.subfloorHeat ≤ 20000)
    && within (-500) 1000 p.warn && within (-500) 1000 p.act && within (-500) 1000 p.fog
    && within 0 500 p.hysteresis && decide (1 ≤ p.actStage) && decide (p.actStage ≤ 4)
    && decide (p.stageCap ≤ 4) && decide (p.blindStage ≤ 4) && decide (p.occupied ≤ 3000)
    && decide (p.unoccupied ≤ 3000) && decide (p.mask ≤ 255) && decide (p.boilerLevel ≤ 2)
    && decide (p.meltEnable ≤ 1) && decide (p.meltHeat ≤ 20000) && decide (p.startCue ≤ 255)
    && decide (p.autoGo ≤ 1) && decide (p.act < p.warn) && decide (p.fog < p.act)
    && decide (p.actStage ≤ p.stageCap)

/-- R154: the detail of PROFILE_CHANGE: 256 × the cause + the index active before, 255 for none. -/
def changeDetail (cause : Nat) (before : Option (Fin 8)) : Int :=
  ((256 * cause + (match before with
    | some i => i.val
    | none => 255) : Nat))

/-- R150, R151: a passing write of a profile; of the active one it is a rewrite. -/
def State.storeProfile (s : State) (i : Fin 8) (p : Profile) : State :=
  let s' := s.setPrf { s.prf with profiles := s.prf.profiles.set i p }
  if s.prf.active = some i then s'.raise .profileChange i.val (changeDetail 3 (some i)) else s'

/-- R154: a selection that is taken, with its cause: 1 a request, 2 the selection point. -/
def State.takeSelection (s : State) (k : Fin 8) (cause : Nat) : State :=
  let p := s.prf.profiles[k]
  let before := s.prf.active
  let s := s.setPrf { s.prf with active := some k }
  let s := s.raise .profileChange k.val (changeDetail cause before)
  s.repositionShow (Fin.ofNat 256 p.startCue) (p.autoGo == 1)

/-- R59, R153: an arrival of s at the selection point. -/
def State.selectByPoint (s : State) (point : Fin 256) (value : Int) : State :=
  if h : 0 ≤ value ∧ value < 8 then
    let k : Fin 8 := ⟨value.toNat, by omega⟩
    if s.prf.active = some k then s
    else if s.prf.profiles[k].valid then s.takeSelection k 2
    else s.raise .tableInvalid point.val value
  else s.raise .tableInvalid point.val value

/-- R58, R59: what an arrival does beyond the watch, by the point's role; `before` is the raw last
value before the arrival. -/
def State.arrivalEvent (s : State) (i : Fin 256) (before : Option Int) (value : Int) : State :=
  let role := (s.config i).role
  let changed := match before with
    | some v => v != value
    | none => false
  if role = roleCueTriggerShow then (if changed then s.goPlayback .showPlayback else s)
  else if role = roleCueTriggerHouse then (if changed then s.goPlayback .housePlayback else s)
  else if role = roleProfileSelect then s.selectByPoint i value
  else s

/-- R46: one reading entry: whether it matched, whether the matched point is an input with its
forward flag set, and the state after. -/
def State.readingEntry (s : State) (station channel : Nat) (value : Int) (quality : Byte) :
    Bool × Bool × State :=
  match s.ptw.byKey station channel with
  | none => (false, false, s)
  | some i =>
    let c := s.config i
    if !c.isInput then (true, false, s)
    else if quality ≠ 0#8 then (true, c.forward == 1, s)
    else
      let before := (s.runtime i).raw
      (true, c.forward == 1, (s.arrival i value).arrivalEvent i before value)

end Sys2Proof.Machine
end

