-- ==== Sys2Proof/Machine/Traffic.lean ====
section
/-! DEFINITION. Segment traffic (02): poll lists and reply windows, the inbound queue, routing and
relaying, the ownership filter on a COMMAND. -/

namespace Sys2Proof.Machine

/-! ### Poll lists (2.2) -/

/-- The slot of a poll list that holds a station; station 0 is held by none. -/
def FieldPort.slotOf (f : FieldPort) (station : Nat) : Option (Fin 32) :=
  firstIndex f.polls (fun e => station != 0 && e.station == station)

/-- R23: the segment whose poll list holds a station. -/
def State.segmentOf (s : State) (station : Nat) : Option Segment :=
  if (s.plant.slotOf station).isSome then some .plant
  else if (s.bowl.slotOf station).isSome then some .bowl
  else none

/-- R30: a station has answered: ANSWERING, misses 0. -/
def PollEntry.answered (e : PollEntry) : PollEntry := { e with state := .answering, misses := 0 }

/-- The poll list with the entry of a station changed, where it holds one. -/
def FieldPort.changeEntry (f : FieldPort) (station : Nat) (g : PollEntry → PollEntry) : FieldPort :=
  match f.slotOf station with
  | some i => { f with polls := change f.polls i g }
  | none => f

/-- R28: the poll interval in periods of the reference, eight times while the entry is SILENT. -/
def PollEntry.wait (e : PollEntry) : Nat :=
  millis (100 * e.interval) * (if e.state = .silent then 8 else 1)

/-- R28: the due time of an entry; none for a time of last poll of none, earlier than any other. -/
def PollEntry.dueTime (e : PollEntry) : Option Nat := e.lastPoll.map (· + e.wait)

/-- R28: a filled entry is due. -/
def PollEntry.isDue (e : PollEntry) (now : Nat) : Bool :=
  e.station != 0 && match e.dueTime with
    | none => true
    | some t => t ≤ now

/-- R28: the first entry is due before the second. -/
def PollEntry.earlier (e d : PollEntry) : Bool :=
  match e.dueTime, d.dueTime with
  | none, some _ => true
  | some a, some b => a < b
  | _, none => false

/-- R28: the longest-due entry of a list: the earliest due time, the lowest slot among equals. -/
def FieldPort.longestDue (f : FieldPort) (now : Nat) : Option (Fin 32) :=
  (List.finRange 32).foldl (fun best i =>
    if f.polls[i].isDue now then
      match best with
      | some j => if f.polls[i].earlier f.polls[j] then some i else best
      | none => some i
    else best) none

/-! ### Reply windows (2.3) -/

/-- R27: the window after the entry of a station is emptied or given to another station: a window
that awaits that station runs on, and its outcome changes no entry. -/
def Window.without (w : Window) (station : Nat) : Window :=
  { w with entryGone := w.entryGone || w.awaited.any (fun b => b.toNat == station) }

/-- R27: the port after the entry of a station is emptied or given to another station. -/
def FieldPort.withoutEntry (f : FieldPort) (station : Nat) : FieldPort :=
  { f with window := f.window.map (·.without station) }

/-- R27: both field ports after the entry of a station is emptied or given to another station. -/
def State.withoutEntry (s : State) (station : Nat) : State :=
  (s.setPlant (s.plant.withoutEntry station)).setBowl (s.bowl.withoutEntry station)

/-- R30, R32: the reply note of a good telegram from this source, and the port after: an answer from
the awaited station closes the window and makes its entry ANSWERING, unless the entry was taken out
while the window was open (R27); outside a window a SILENT entry becomes ANSWERING. -/
def FieldPort.note (f : FieldPort) (src : Byte) : ReplyNote × FieldPort :=
  match f.window with
  | some w =>
    if w.awaited = some src then
      (if w.byPoll then .inPollWindow else .inRelayWindow,
        if w.entryGone then { f with window := none }
        else { f with window := none }.changeEntry src.toNat PollEntry.answered)
    else (.notInWindow, f.changeEntry src.toNat
      (fun e => if e.state = .silent then e.answered else e))
  | none => (.notInWindow, f.changeEntry src.toNat
      (fun e => if e.state = .silent then e.answered else e))

/-- R31: an entry after a miss. -/
def PollEntry.missed (e : PollEntry) : PollEntry :=
  let misses := bump e.misses
  { e with misses := misses,
           state := match e.state with
             | .unpolled => .silent
             | .answering => if 3 ≤ misses then .silent else .answering
             | .silent => .silent }

/-- R31: the miss of a poll window: the entry of the awaited station counts it, and STATION_SILENT
is raised when the entry becomes SILENT by it. -/
def State.pollMiss (s : State) (g : Segment) (station : Nat) : State :=
  let f := s.field g
  match f.slotOf station with
  | none => s
  | some i =>
    let e := f.polls[i]
    let s := s.setField g { f with polls := f.polls.set i e.missed }
    if e.state ≠ .silent ∧ e.missed.state = .silent then
      s.raise .stationSilent station (segmentNumber g)
    else s

/-- R27, R31: an open reply window reaches its expiry; when a POLL opened it and the entry of the
awaited station was not taken out meanwhile, the entry counts a miss. -/
def State.windowExpiry (s : State) (g : Segment) : State :=
  let f := s.field g
  match f.window with
  | none => s
  | some w =>
    let s := (s.comesAt w.expiry).setField g { f with window := none }
    match w.byPoll && !w.entryGone, w.awaited with
    | true, some station => s.pollMiss g station.toNat
    | _, _ => s

/-! ### Queues -/

/-- R15: a telegram for the inbound queue: appended when one of the 16 places is free, else counted
as an overrun of its port. -/
def State.enqueueInbound (s : State) (x : Inbound) : State :=
  if s.traffic.inbound.length < 16 then
    s.setTraffic { s.traffic with inbound := s.traffic.inbound ++ [x] }
  else s.portEvent x.port .overrun

/-- R26: a telegram is relayed up, or dropped and charged to its arrival port. -/
def State.relayUp (s : State) (t : Telegram) (p : Port) : State :=
  if s.traffic.relayUp.length < 16 then
    s.setTraffic { s.traffic with relayUp := s.traffic.relayUp ++ [t] }
  else s.countRelayDrop p

/-- R23: a telegram is relayed down to a segment, or dropped and charged to the supervisor link. -/
def State.relayDown (s : State) (g : Segment) (t : Telegram) : State :=
  let f := s.field g
  if f.relayDown.length < 8 then s.setField g { f with relayDown := f.relayDown ++ [t] }
  else s.countRelayDrop .supervisor

/-! ### Readings (R21, R22) -/

/-- The entries of a READING body after its entry count (R6): channel, value, quality. -/
def readingEntries : List Byte → List (Nat × Int × Byte)
  | ch :: hi :: lo :: q :: rest => (ch.toNat, signedOf (word16 hi lo), q) :: readingEntries rest
  | _ => []

/-- R21: the entries of a READING of good form; none of any other telegram. -/
def Telegram.reading (t : Telegram) : Option (List (Nat × Int × Byte)) :=
  match t.body with
  | c :: rest =>
    if t.kind = kindReading ∧ 1 ≤ c.toNat ∧ c.toNat ≤ 8 ∧ rest.length = 4 * c.toNat then
      some (readingEntries rest)
    else none
  | [] => none

/-- R21: the entries are handed to PTW in body order; whether some matched point is to be forwarded,
whether some entry matched none, and the state after. -/
def State.readingEntries (s : State) (station : Nat) (entries : List (Nat × Int × Byte)) :
    Bool × Bool × State :=
  entries.foldl (fun acc e =>
    let r := acc.2.2.readingEntry station e.1 e.2.1 e.2.2
    (acc.1 || r.2.1, acc.2.1 || !r.1, r.2.2)) (false, false, s)

/-- R21, R22: a telegram that arrived at a field port. -/
def State.takeFieldTelegram (s : State) (g : Segment) (t : Telegram) (note : ReplyNote) : State :=
  match t.reading with
  | none => s.relayUp t g.port
  | some entries =>
    let r := s.readingEntries t.src.toNat entries
    let s := r.2.2
    if note = .inRelayWindow ∨ r.1 ∨ (r.2.1 ∧ (s.field g).forwardUnmatched) then
      s.relayUp t g.port
    else s

/-! ### Supervisor traffic (R23 to R25) -/

/-- The entries of a COMMAND body after its entry count (R7): channel and value bytes. -/
def commandEntries : List Byte → List (Byte × Byte × Byte)
  | ch :: hi :: lo :: rest => (ch, hi, lo) :: commandEntries rest
  | _ => []

/-- R24: the entries of a COMMAND of good form. -/
def Telegram.command (t : Telegram) : Option (List (Byte × Byte × Byte)) :=
  match t.body with
  | c :: rest =>
    if 1 ≤ c.toNat ∧ c.toNat ≤ 8 ∧ rest.length = 3 * c.toNat then some (commandEntries rest)
    else none
  | [] => none

/-- The body of a COMMAND with these entries (R7). -/
def commandBody (entries : List (Byte × Byte × Byte)) : List Byte :=
  byteOf entries.length :: entries.flatMap (fun e => [e.1, e.2.1, e.2.2])

/-- R24: the entries that pass the ownership filter, in body order, and the state after. -/
def State.filterEntries (s : State) (station : Nat) (entries : List (Byte × Byte × Byte)) :
    List (Byte × Byte × Byte) × State :=
  entries.foldl (fun acc e =>
    let r := acc.2.filterEntry station e.1.toNat
    (if r.1 then acc.1 ++ [e] else acc.1, r.2)) ([], s)

/-- R24: what is left of a supervisor telegram that is to be relayed down: any other kind than
COMMAND whole; a COMMAND of its passing entries, none when it is of bad form (unroutable) or no entry
is left. -/
def State.filterDown (s : State) (t : Telegram) : Option Telegram × State :=
  if t.kind ≠ kindCommand then (some t, s)
  else match t.command with
    | none => (none, s.countUnroutable)
    | some entries =>
      let r := s.filterEntries t.dst.toNat entries
      if r.1 = [] then (none, r.2)
      else (some { t with body := commandBody r.1 }, r.2)

/-- R25: a telegram goes down to both segments, plant then bowl. -/
def State.relayBoth (s : State) (t : Telegram) : State := (s.relayDown .plant t).relayDown .bowl t

/-- R23, R24, R25: a telegram that arrived at the supervisor link. -/
def State.takeSupervisorTelegram (s : State) (t : Telegram) : State :=
  let dst := t.dst.toNat
  if t.kind = kindReading ∨ t.kind = kindPoll then s.countUnroutable
  else if dst = 127 then
    let r := s.filterDown t
    match r.1 with
    | some t => r.2.relayBoth t
    | none => r.2
  else if dst = 0 ∨ 127 < dst ∨ dst = s.mgr.address then s.countUnroutable
  else match s.segmentOf dst with
    | none => s.countUnroutable
    | some g =>
      let r := s.filterDown t
      match r.1 with
      | some t => r.2.relayDown g t
      | none => r.2

/-- R20: the telegram processor takes the oldest inbound telegram and acts on it whole. -/
def State.takeInbound (s : State) : State :=
  match s.traffic.inbound with
  | [] => s
  | x :: rest =>
    let s := s.setTraffic { s.traffic with inbound := rest }
    match x.port with
    | .plant => s.takeFieldTelegram .plant x.telegram x.note
    | .bowl => s.takeFieldTelegram .bowl x.telegram x.note
    | .supervisor => s.takeSupervisorTelegram x.telegram

end Sys2Proof.Machine
end

