-- ==== Sys2Proof/Machine/Schedule.lean ====
section
/-! DEFINITION. Arbitration (2.4, 2.5): at the end of each step every free transmitter takes its
next telegram, and ALM is judged (log 20). -/

namespace Sys2Proof.Machine

/-- R33: a field port is free: transmitter IDLE, port quiet, no reply window open. -/
def FieldPort.free (f : FieldPort) : Bool := f.line.sending.isNone && f.quiet && f.window.isNone

/-! ### COMMANDs from the pending output list (R35) -/

/-- R35: the oldest pending point whose station this port's poll list holds. -/
def State.oldestPending (s : State) (g : Segment) : Option (Fin 256) :=
  s.ptw.pendingOut.find? (fun i => ((s.field g).slotOf (s.config i).station).isSome)

/-- R35: up to eight pending points of one station, in list order. -/
def State.pendingOf (s : State) (station : Nat) : List (Fin 256) :=
  (s.ptw.pendingOut.filter (fun i => (s.config i).station == station)).take 8

/-- R35: the COMMAND entry of a point: its channel and its value to be sent. -/
def State.commandEntry (s : State) (i : Fin 256) : Byte × Byte × Byte :=
  let v := codeOf ((s.runtime i).toSend.getD 0)
  (byteOf (s.config i).channel, byteOf (v / 256), byteOf v)

/-- R35, R53: the scheduler takes a point: it leaves the list, and its value and the moment become
its last sent value and time of last sending. -/
def State.takePending (s : State) (i : Fin 256) : State :=
  (s.setPtw (s.ptw.leave i)).changeRuntime i
    (fun r => { r with lastSent := r.toSend, lastSending := some (toMillis s.now) })

/-- R35: a COMMAND is built from the points and handed to the transmitter. -/
def State.sendCommand (s : State) (g : Segment) (station : Nat) : State :=
  let points := s.pendingOf station
  let t : Telegram :=
    ⟨byteOf station, s.ownAddress, kindCommand, commandBody (points.map s.commandEntry)⟩
  (points.foldl State.takePending s).sendField g t .command

/-! ### LEVELS blocks (R36) -/

/-- R36: the next due block in round-robin order after the last one sent. -/
def State.nextBlock (s : State) : Option (Fin 16) :=
  ((List.finRange 16).map (fun j => s.traffic.lastBlock + 1 + j)).find? (fun b => s.cue.due[b])

/-- R7, R36: the LEVELS telegram of a block from the output level map. -/
def State.levelsTelegram (s : State) (b : Fin 16) : Telegram :=
  ⟨127#8, s.ownAddress, kindLevels,
    byteOf b.val :: (List.finRange 16).map (fun j => byteOf s.cue.levelMap[blockChannel b j])⟩

/-- R146: the last-sent copy of a block becomes the levels just handed over. -/
def CueEngine.copySent (e : CueEngine) (b : Fin 16) : CueEngine :=
  { e with due := e.due.set b false,
           lastSent := (List.finRange 16).foldl
             (fun v j => v.set (blockChannel b j) e.levelMap[blockChannel b j]) e.lastSent }

/-- R36, R146: a LEVELS telegram is built and handed over. -/
def State.sendLevels (s : State) (b : Fin 16) : State :=
  let t := s.levelsTelegram b
  let s := (s.setCue (s.cue.copySent b)).setTraffic { s.traffic with lastBlock := b }
  s.sendField .bowl t .levels

/-! ### POLLs (R37) -/

/-- R37: a POLL to the station of an entry: its time of last poll becomes now, and the consecutive
non-poll count 0. -/
def State.sendPoll (s : State) (g : Segment) (i : Fin 32) : State :=
  let f := s.field g
  let t : Telegram := ⟨byteOf f.polls[i].station, s.ownAddress, kindPoll, []⟩
  let f := { f with polls := change f.polls i (fun e => { e with lastPoll := some s.now }),
                    nonPoll := 0 }
  (s.setField g f).sendField g t .poll

/-! ### The choice of a field port (R34) -/

/-- R34, 1: the oldest relay-down telegram is handed over. -/
def State.sendRelay (s : State) (g : Segment) (t : Telegram) (rest : List Telegram) : State :=
  (s.setField g { s.field g with relayDown := rest }).sendField g t .relay

/-- R34, 3 and 4: below a COMMAND, the next due block on the bowl port, then a due POLL. -/
def State.chooseLow (s : State) (g : Segment) (due : Option (Fin 32)) : State :=
  match g, s.nextBlock with
  | .bowl, some b => s.sendLevels b
  | _, _ => match due with
    | some i => s.sendPoll g i
    | none => s

/-- R34: the fixed order of candidates. -/
def State.chooseInOrder (s : State) (g : Segment) (due : Option (Fin 32)) : State :=
  match (s.field g).relayDown with
  | t :: rest => s.sendRelay g t rest
  | [] => match s.oldestPending g with
    | some i => s.sendCommand g (s.config i).station
    | none => s.chooseLow g due

/-- R34: a due POLL goes first when the consecutive non-poll count stands at 4; else the fixed
order. -/
def State.choose (s : State) (g : Segment) : State :=
  match decide (4 ≤ (s.field g).nonPoll), (s.field g).longestDue s.now with
  | true, some i => s.sendPoll g i
  | _, due => s.chooseInOrder g due

/-- R33: the scheduler of a free port makes its choice. -/
def State.schedule (s : State) (g : Segment) : State :=
  if (s.field g).free then s.choose g else s

/-! ### The supervisor link sender (R38) and the choice of a notice (R172) -/

/-- The source of a number. -/
def sourceList : List Source :=
  [.start, .pointLimit, .pointStale, .pointLost, .stationSilent, .override, .captureEnd, .fogState,
   .fogStarved, .heatShort, .boilerTopup, .valveDone, .valveFault, .cueDone, .cueFault,
   .profileChange, .portError, .tableInvalid]

/-- R171: the source is pending. -/
def Ntu.isPending (n : Ntu) (source : Source) : Bool := 0 < n.records[source.number].count

/-- R172: the pending source of highest level, the lowest number among equals. -/
def Ntu.offered (n : Ntu) : Option Source :=
  sourceList.foldl (fun best x =>
    if n.isPending x then
      match best with
      | some y => if n.levels[y.number] < n.levels[x.number] then some x else best
      | none => some x
    else best) none

/-- R9, R172: the NOTICE telegram of a source. -/
def State.noticeTelegram (s : State) (source : Source) : Telegram :=
  let r := s.ntu.records[source.number]
  ⟨127#8, s.ownAddress, kindNotice,
    [byteOf source.number.val, byteOf s.ntu.levels[source.number], byteOf r.count, byteOf r.subject]
      ++ bytesSigned r.detail⟩

/-- R172: the notice is handed over and its record cleared. -/
def State.sendNotice (s : State) (source : Source) : State :=
  let t := s.noticeTelegram source
  (s.setNtu { s.ntu with records := s.ntu.records.set source.number .cleared }).sendUp t .notice

/-- R38: the REPLY in the slot, else the notice offered, else the oldest relay-up telegram. -/
def State.chooseUp (s : State) : State :=
  match s.mgr.slot with
  | some t => s.sendUp t .reply
  | none => match s.ntu.offered with
    | some source => s.sendNotice source
    | none => match s.traffic.relayUp with
      | t :: rest => (s.setTraffic { s.traffic with relayUp := rest }).sendUp t .relayUp
      | [] => s

/-- R38: the sender chooses whenever its transmitter is IDLE. -/
def State.sendNext (s : State) : State :=
  if s.supervisor.line.sending.isNone then s.chooseUp else s

/-- The end of a step: each free transmitter takes its next telegram, and ALM is judged (R33, R38,
R173; log 20). While the part is held nothing is sent (R182). -/
def State.arbitrate (s : State) : State :=
  if s.hold = .working then
    (((s.schedule .plant).schedule .bowl).sendNext).judgeAlarm
  else s.judgeAlarm

end Sys2Proof.Machine
end

