-- ==== Sys2Proof/Machine/Requests.lean ====
section
/-! DEFINITION. Management requests (11): the replies, the order of the checks, and what each request
reads and writes. -/

namespace Sys2Proof.Machine

/-! ### Replies -/

/-- The statuses of a REPLY, in the order of their values (R8). -/
inductive Status where
  | done | badRequest | badIndex | badValue | inUse | notReady | busy
deriving DecidableEq, Repr

/-- R8: the value of a status. -/
def Status.code : Status → Byte
  | .done => 0
  | .badRequest => 1
  | .badIndex => 2
  | .badValue => 3
  | .inUse => 4
  | .notReady => 5
  | .busy => 6

/-- What carrying out a request gives: status and data of its REPLY, and the state. -/
structure Answer where
  status : Status
  data   : List Byte
  state  : State
deriving DecidableEq, Repr

/-- R177: a refusal: no data, no state changed. -/
def State.refuse (s : State) (status : Status) : Answer := ⟨status, [], s⟩

/-- A request that is answered DONE without data. -/
def State.doneAs (s : State) : Answer := ⟨.done, [], s⟩

/-- A request that is answered DONE with data and changes nothing. -/
def State.answerData (s : State) (data : List Byte) : Answer := ⟨.done, data, s⟩

/-- R3, R8, R176: the REPLY to a request. -/
def State.replyTelegram (s : State) (source code tag : Byte) (status : Status) (data : List Byte) :
    Telegram :=
  ⟨source, s.ownAddress, kindReply, code :: tag :: status.code :: data⟩

/-- R176: a REPLY is placed in the slot, and no request is in hand. -/
def State.reply (s : State) (source code tag : Byte) (status : Status) (data : List Byte) : State :=
  s.setMgr { s.mgr with inHand := none,
                        slot := some (s.replyTelegram source code tag status data) }

/-- R176: the REPLY of an answer is placed in the slot. -/
def Answer.place (a : Answer) (code : Byte) (r : Request) : State :=
  a.state.reply r.source code r.tag a.status a.data

/-! ### The order of the checks (R177) -/

/-- R177, orders 2 and 3: the operands are cut by a layout whose first field is the index. -/
def State.indexed (s : State) (n : Nat) (layout : Layout) (operands : List Byte)
    (act : Fin n → List Nat → Answer) : Answer :=
  match layout.parse operands with
  | some (i :: fields) => if h : i < n then act ⟨i, h⟩ fields else s.refuse .badIndex
  | _ => s.refuse .badRequest

/-- R177, order 2: a request without operands. -/
def State.bare (s : State) (operands : List Byte) (act : Answer) : Answer :=
  match operands with
  | [] => act
  | _ :: _ => s.refuse .badRequest

/-- R177, order 4: the field checks. -/
def State.checked (s : State) (ok : Bool) (act : Answer) : Answer :=
  if ok then act else s.refuse .badValue

/-- R177, order 5: the state of the thing named allows the request. -/
def State.allowed (s : State) (ok : Bool) (refusal : Status) (act : Answer) : Answer :=
  if ok then act else s.refuse refusal

/-! ### WRITE_ENTRY (R178), one function for each table -/

/-- R42 to R44: a write of a point record. -/
def State.writePoint (s : State) (operands : List Byte) : Answer :=
  s.indexed 256 (1 :: pointLayout) operands (fun i fields =>
    match fields, PointConfig.ofFields fields with
    | 0 :: _, some c => (s.rewritePoint i c).doneAs
    | 1 :: _, some c =>
      s.checked c.ok (s.allowed (!s.ptw.conflicts i c) .inUse (s.rewritePoint i c).doneAs)
    | _, _ => s.refuse .badValue)

/-- The segment of a port number 0 or 1. -/
def segmentOfNumber (n : Nat) : Segment := if n = 0 then .plant else .bowl

/-- R27: the station is held by another slot of either list. -/
def State.stationTaken (s : State) (g : Segment) (slot : Fin 32) (station : Nat) : Bool :=
  (List.finRange 32).any (fun i =>
    (s.plant.polls[i].station == station && !(g == .plant && i == slot))
      || (s.bowl.polls[i].station == station && !(g == .bowl && i == slot)))

/-- R27: a slot after a write that is taken: UNPOLLED, misses 0, last poll none. -/
def PollEntry.written (station interval : Nat) : PollEntry := ⟨station, interval, .unpolled, 0, none⟩

/-- R27: the write of a slot is stored. A write that empties the slot or changes its station leaves
an open window that awaits the old station without an entry to change. -/
def State.storePoll (s : State) (g : Segment) (slot : Fin 32) (station interval : Nat) : State :=
  let old := (s.field g).polls[slot].station
  let s := if old ≠ 0 ∧ old ≠ station then s.withoutEntry old else s
  let f := s.field g
  s.setField g { f with polls := f.polls.set slot (.written station interval) }

/-- R27, R178: the checks of a poll entry; the interval of an emptied slot is not checked. -/
def pollOk (station interval : Nat) : Bool :=
  station == 0 || (decide (station ≤ 126) && decide (1 ≤ interval) && decide (interval ≤ 600))

/-- R27, R178: a write of a poll entry. -/
def State.writePoll (s : State) (operands : List Byte) : Answer :=
  match Layout.parse (1 :: 1 :: pollLayout) operands with
  | some [port, slot, station, interval] =>
    if h : port < 2 ∧ slot < 32 then
      let g := segmentOfNumber port
      s.checked (pollOk station interval)
        (s.allowed (station == 0 || !s.stationTaken g ⟨slot, h.2⟩ station) .inUse
          (s.storePoll g ⟨slot, h.2⟩ station interval).doneAs)
    else s.refuse .badIndex
  | _ => s.refuse .badRequest

/-- R21, R29: the settings of a field port are stored. -/
def State.storeFieldPort (s : State) (g : Segment) (length flag : Nat) : State :=
  s.setField g { s.field g with windowLength := length, forwardUnmatched := flag == 1 }

/-- R21, R29, R178: a write of a field port setting. -/
def State.writeFieldPort (s : State) (operands : List Byte) : Answer :=
  s.indexed 2 (1 :: fieldPortLayout) operands (fun i fields =>
    match fields with
    | [length, flag] =>
      s.checked (decide (1 ≤ length) && decide (length ≤ 50) && decide (flag ≤ 1))
        (s.storeFieldPort (segmentOfNumber i.val) length flag).doneAs
    | _ => s.refuse .badRequest)

/-- R62: a write of a saturation knot; every two-byte pressure is in range. -/
def State.writeKnotEntry (s : State) (operands : List Byte) : Answer :=
  s.indexed 41 (1 :: knotLayout) operands (fun i fields =>
    match fields with
    | [pressure] => (s.writeKnot i pressure).doneAs
    | _ => s.refuse .badRequest)

/-- R64: a write of the fog configuration. -/
def State.writeFog (s : State) (operands : List Byte) : Answer :=
  s.indexed 1 (1 :: fogLayout) operands (fun _ fields =>
    match fields with
    | [dwell] =>
      s.checked (decide (10 ≤ dwell) && decide (dwell ≤ 600))
        (s.setFcu { s.fcu with dwell := dwell }).doneAs
    | _ => s.refuse .badRequest)

/-- R178: the layout of a heat plant part 0 to 12. -/
def heatLayout (part : Nat) : Layout :=
  if part = 0 then constantsLayout else if part ≤ 4 then circuitLayout else zoneLayout

/-- R78, R85: the constants are stored, and FCU recomputes the effective stage at once: R78 asks it at each
write taken to the q_stage field, which every write of the constants is (log 31). -/
def State.storeConstants (s : State) (k q cap : Nat) : State :=
  (s.setHau { s.hau with k := k, qStage := q, boilerCap := cap }).recomputeStage

/-- R85: the fields of a part that passed orders 2 and 3 are checked and stored. -/
def State.storeHeatPart (s : State) (part : Nat) (fields : List Nat) : Answer :=
  match fields with
  | [k, q, cap] =>
    s.checked (decide (1000 ≤ k) && decide (k ≤ 4500) && decide (1 ≤ q) && decide (q ≤ 2000)
        && decide (cap ≤ 20000)) (s.storeConstants k q cap).doneAs
  | [cap] =>
    s.checked (decide (1 ≤ cap) && decide (cap ≤ 20000))
      (s.setHau { s.hau with caps := s.hau.caps.set (Fin.ofNat 4 (part - 1)) cap }).doneAs
  | [gain, most] =>
    s.checked (decide (gain ≤ 1000) && decide (most ≤ 2000))
      (s.setHau { s.hau with zones := s.hau.zones.set (Fin.ofNat 8 (part - 5)) ⟨gain, most⟩ }).doneAs
  | _ => s.refuse .badRequest

/-- R85, R178: a write of a heat plant part. A part above 12 fails at order 3 when its operand
length is that of some part, else at order 2 (log 16). -/
def State.writeHeatPart (s : State) (operands : List Byte) : Answer :=
  match operands with
  | [] => s.refuse .badRequest
  | part :: rest =>
    if part.toNat ≤ 12 then
      match (heatLayout part.toNat).parse rest with
      | some fields => s.storeHeatPart part.toNat fields
      | none => s.refuse .badRequest
    else if rest.length = 2 ∨ rest.length = 4 ∨ rest.length = 6 then s.refuse .badIndex
    else s.refuse .badRequest

/-- R86: a write of a lighting load entry. -/
def State.writeLoad (s : State) (operands : List Byte) : Answer :=
  s.indexed 256 (1 :: loadLayout) operands (fun i fields =>
    match fields with
    | [code, weight] => match zoneOfCode code with
      | some zone =>
        (s.setHau { s.hau with loads := s.hau.loads.set i ⟨zone, weight⟩ }).doneAs
      | none => s.refuse .badValue
    | _ => s.refuse .badRequest)

/-- R111: a write of a valve configuration. -/
def State.writeValve (s : State) (operands : List Byte) : Answer :=
  s.indexed 4 (1 :: valveLayout) operands (fun c fields =>
    match ValveConfig.ofFields fields with
    | some config =>
      s.checked (valveFieldsOk fields)
        (s.allowed (!(s.valve c).busy) .busy (s.configureValve c config).doneAs)
    | none => s.refuse .badRequest)

/-- R150: a write of a profile. -/
def State.writeProfile (s : State) (operands : List Byte) : Answer :=
  s.indexed 8 (1 :: profileLayout) operands (fun i fields =>
    match Profile.ofFields fields with
    | some p => s.checked p.ok (s.storeProfile i p).doneAs
    | none => s.refuse .badRequest)

/-- R127, R128: a write of a cue record. -/
def State.writeCue (s : State) (operands : List Byte) : Answer :=
  s.indexed 256 (1 :: cueLayout) operands (fun i fields =>
    match CueRecord.ofFields fields with
    | some c =>
      s.checked c.ok
        (s.allowed (!(s.cue.playbackShow.runs i || s.cue.playbackHouse.runs i)) .inUse
          (s.setCue { s.cue with cues := s.cue.cues.set i c }).doneAs)
    | none => s.refuse .badRequest)

/-- R129: a write of a span entry. -/
def State.writeSpan (s : State) (operands : List Byte) : Answer :=
  s.indexed 512 (2 :: spanLayout) operands (fun a fields =>
    match fields with
    | [offset, width] =>
      s.checked (decide (1 ≤ width) && decide (width ≤ 256))
        (s.setCue { s.cue with
          spans := Memory.write .zero s.cue.spans a.val ⟨offset, width⟩ }).doneAs
    | _ => s.refuse .badRequest)

/-- R129: a write of a scene level; every byte is a level. -/
def State.writeScene (s : State) (operands : List Byte) : Answer :=
  s.indexed 4096 (2 :: sceneLayout) operands (fun a fields =>
    match fields with
    | [level] =>
      (s.setCue { s.cue with scenes := Memory.write 0#8 s.cue.scenes a.val (byteOf level) }).doneAs
    | _ => s.refuse .badRequest)

/-- R160: a write of a capture descriptor. -/
def State.writeDescriptor (s : State) (operands : List Byte) : Answer :=
  s.indexed 8 (1 :: descriptorLayout) operands (fun i fields =>
    match Descriptor.ofFields fields with
    | some d =>
      s.checked d.ok (s.allowed (!s.tcu.channels[i].active) .inUse
        (s.setTcu { s.tcu with channels := s.tcu.channels.set i (.written d) }).doneAs)
    | none => s.refuse .badRequest)

/-- R170: a level is stored; level 0 clears the pending record. -/
def Ntu.setLevel (n : Ntu) (i : Fin 18) (level : Nat) : Ntu :=
  { n with levels := n.levels.set i level,
           records := if level = 0 then n.records.set i .cleared else n.records }

/-- R170: the level lies in range; the level of START is 7. -/
def levelOk (i : Fin 18) (level : Nat) : Bool := decide (level ≤ 7) && (i != 0 || level == 7)

/-- R170: a write of a notice level. -/
def State.writeLevel (s : State) (operands : List Byte) : Answer :=
  s.indexed 18 (1 :: levelLayout) operands (fun i fields =>
    match fields with
    | [level] => s.checked (levelOk i level) (s.setNtu (s.ntu.setLevel i level)).doneAs
    | _ => s.refuse .badRequest)

/-! ### READ_ENTRY (R178) -/

/-- R158, R178: an index of a profile, 255 for none. -/
def profileCode : Option (Fin 8) → Nat
  | some i => i.val
  | none => 255

/-- R178: the fields of the poll entry at a port and slot: station 0 when empty, and the interval. -/
def PollEntry.data (e : PollEntry) : List Byte := pollLayout.emit [e.station, e.interval]

/-- R178: the fields of a heat plant part. -/
def Hau.partData (h : Hau) (part : Fin 13) : List Byte :=
  if part.val = 0 then constantsLayout.emit [h.k, h.qStage, h.boilerCap]
  else if part.val ≤ 4 then circuitLayout.emit [h.caps[Fin.ofNat 4 (part.val - 1)]]
  else
    let z := h.zones[Fin.ofNat 8 (part.val - 5)]
    zoneLayout.emit [z.gain, z.maxHeat]

/-- R158: the record of a profile, its valid flag, the active index and the boiler limit. -/
def Prf.data (p : Prf) (i : Fin 8) : List Byte :=
  let r := p.profiles[i]
  profileLayout.emit r.fields
    ++ [byteOf (flagCode r.valid), byteOf (profileCode p.active), byteOf p.limit]

/-- R171: the level of a source and its pending record. -/
def Ntu.data (n : Ntu) (i : Fin 18) : List Byte :=
  let r := n.records[i]
  byteOf n.levels[i] :: byteOf r.count :: byteOf r.subject :: bytesSigned r.detail

/-- The slot of a port number and slot. -/
def State.pollAt (s : State) (port : Nat) (slot : Fin 32) : PollEntry :=
  (s.field (segmentOfNumber port)).polls[slot]

/-- R178: the two index bytes of a poll entry or a station. -/
def State.pollIndexed (s : State) (operands : List Byte) (data : PollEntry → List Byte) : Answer :=
  match Layout.parse [1, 1] operands with
  | some [port, slot] =>
    if h : port < 2 ∧ slot < 32 then s.answerData (data (s.pollAt port ⟨slot, h.2⟩))
    else s.refuse .badIndex
  | _ => s.refuse .badRequest

/-- A read by one index. -/
def State.readIndexed (s : State) (n width : Nat) (operands : List Byte)
    (data : Fin n → List Byte) : Answer :=
  s.indexed n [width] operands (fun i _ => s.answerData (data i))

/-- R178: READ_ENTRY of a table, the index operands following the table code. -/
def State.readTable (s : State) (table : Nat) (operands : List Byte) : Answer :=
  match table with
  | 0 => s.readIndexed 256 1 operands (fun i => pointLayout.emit (s.config i).fields)
  | 1 => s.pollIndexed operands PollEntry.data
  | 2 => s.readIndexed 2 1 operands (fun i =>
      let f := s.field (segmentOfNumber i.val)
      fieldPortLayout.emit [f.windowLength, flagCode f.forwardUnmatched])
  | 3 => s.readIndexed 41 1 operands (fun i => knotLayout.emit [s.fcu.knots[i]])
  | 4 => s.readIndexed 1 1 operands (fun _ => fogLayout.emit [s.fcu.dwell])
  | 5 => s.readIndexed 13 1 operands s.hau.partData
  | 6 => s.readIndexed 256 1 operands (fun i =>
      loadLayout.emit [s.hau.loads[i].zoneCode, s.hau.loads[i].weight])
  | 7 => s.readIndexed 4 1 operands (fun i => valveLayout.emit (s.valve i).config.fields)
  | 8 => s.readIndexed 8 1 operands s.prf.data
  | 9 => s.readIndexed 256 1 operands (fun i => cueLayout.emit s.cue.cues[i].fields)
  | 10 => s.readIndexed 512 2 operands (fun a =>
      spanLayout.emit [(s.cue.span a.val).offset, (s.cue.span a.val).width])
  | 11 => s.readIndexed 4096 2 operands (fun a => sceneLayout.emit [s.cue.scene a.val])
  | 12 => s.readIndexed 8 1 operands (fun i =>
      descriptorLayout.emit s.tcu.channels[i].descriptor.fields)
  | 13 => s.readIndexed 18 1 operands s.ntu.data
  | _ => s.refuse .badRequest

/-- R178: READ_ENTRY. -/
def State.readEntry (s : State) (operands : List Byte) : Answer :=
  match operands with
  | table :: rest => s.readTable table.toNat rest
  | [] => s.refuse .badRequest

/-! ### READ_STATUS (R180) -/

/-- Code of a watch state (3.1). -/
def Watch.code : Watch → Nat
  | .unseen => 0
  | .live => 1
  | .stale => 2
  | .lost => 3

/-- Code of a limit state (3.1). -/
def Limit.code : Limit → Nat
  | .normal => 0
  | .low => 1
  | .high => 2

/-- Code of a station state (2.2). -/
def StationState.code : StationState → Nat
  | .unpolled => 0
  | .answering => 1
  | .silent => 2

/-- Code of a loop status (log 23). -/
def LoopStatus.code : LoopStatus → Nat
  | .complete => 0
  | .degraded => 1
  | .unassigned => 2

/-- Code of a channel state (6.2). -/
def ValveState.code : ValveState → Nat
  | .unhomed => 0
  | .homing _ => 1
  | .ready => 2
  | .seeking => 3
  | .settling => 4
  | .manual => 5
  | .fault => 6

/-- Code of a fault cause (log 23). -/
def FaultCause.code : FaultCause → Nat
  | .none => 0
  | .driveFault => 1
  | .homeNotFound => 2

/-- Code of a playback state (log 23). -/
def PlayState.code : PlayState → Nat
  | .idle => 0
  | .fading => 1
  | .held => 2
  | .fault => 3

/-- Code of a capture channel state (09). -/
def CaptureState.code : CaptureState → Nat
  | .off => 0
  | .armed => 1
  | .running => 2
  | .ended => 3

/-- The pending slot of a valve channel in three bytes (R180). -/
def Slot.data : Slot → List Byte
  | .empty => byteOf 0 :: bytes16 0
  | .target t => byteOf 1 :: bytes16 t
  | .home => byteOf 2 :: bytes16 0

/-- A flag as a byte. -/
def flagByte (b : Bool) : Byte := byteOf (flagCode b)

/-- R57: the value of a point as reported: the seen value of an input, the value to send of an
output, 0 for none (log 18). -/
def Point.reported (p : Point) : Int :=
  if p.config.isInput then p.runtime.seen else p.runtime.toSend.getD 0

/-- Whole seconds to the override expiry, 0 under AUTO (R180; log 17). -/
def PointRuntime.overrideLeft (r : PointRuntime) (now : Nat) : Nat :=
  match r.overrideAt with
  | some t => (t - toMillis now) / 1000
  | none => 0

/-- R180, unit 0: the runtime of a point; of one not in use, in use 0 alone. -/
def Point.data (p : Point) (now : Nat) : List Byte :=
  let r := p.runtime
  if p.config.inUse then
    [byteOf 1, byteOf r.watch.code, byteOf r.limit.code, flagByte r.clamped]
      ++ bytesSigned (r.raw.getD 0) ++ bytesSigned p.reported
      ++ bytes16 (secondsSinceMilli now r.lastArrival) ++ [flagByte r.overrideAt.isSome]
      ++ optionalValue r.autoValue ++ optionalValue r.toSend ++ optionalValue r.lastSent
      ++ bytes16 (secondsSinceMilli now r.lastSending) ++ bytes16 (r.overrideLeft now)
      ++ [flagByte r.pendingFlag]
  else [byteOf 0]

/-- R180, unit 1: a station of a poll list. -/
def PollEntry.status (e : PollEntry) (now : Nat) : List Byte :=
  byteOf e.station :: byteOf e.state.code :: (bytes16 e.misses
    ++ bytes16 (secondsSince now e.lastPoll))

/-- R180, unit 2: a fog zone. -/
def FogZone.data (z : FogZone) : List Byte :=
  [byteOf z.state.code, flagByte z.degraded, flagByte z.lowDew]
    ++ bytesSigned z.airT ++ bytesSigned z.rh ++ bytesSigned z.iceT ++ bytes16 z.satPressure
    ++ bytes16 z.pressure ++ bytesSigned z.dewPoint ++ bytesSigned z.margin ++ [byteOf z.demand]

/-- R180, unit 3: the fog unit. -/
def Fcu.data (f : Fcu) (now : Nat) : List Byte :=
  [flagByte f.valid, byteOf f.stage, byteOf f.demand, byteOf f.effective, flagByte f.starved,
   byteOf f.fields.stageCap] ++ bytes16 (secondsSince now f.lastChange) ++ [byteOf (f.fan.getD 255)]

/-- R180, unit 4, index 0: the budget part. -/
def AllocationResult.budgetData (r : AllocationResult) : List Byte :=
  bytes16 r.heat ++ [flagByte r.clamped, byteOf r.loop.code] ++ bytes16 r.budget ++ [byteOf r.level]
    ++ bytes16 r.boilerCommand ++ bytes16 r.boilerCap ++ bytes16 r.rejected
    ++ [flagByte r.short, flagByte r.call, flagByte r.subfloorDegraded]

/-- R180, unit 4: a class part. -/
def ClassResult.data (c : ClassResult) : List Byte :=
  bytes16 c.demand ++ [flagByte c.inService] ++ bytes16 c.grant ++ bytes16 c.topUp
    ++ bytes16 c.target

/-- R180, unit 4: a zone part. -/
def ZoneResult.data (z : ZoneResult) : List Byte :=
  [flagByte z.takesPart, flagByte z.degraded] ++ bytes16 z.gain ++ bytes16 z.demand
    ++ bytes16 z.grant ++ bytes16 z.output

/-- R180, unit 4: the part of the allocation result at an index. -/
def AllocationResult.data (r : AllocationResult) (i : Fin 13) : List Byte :=
  if i.val = 0 then r.budgetData
  else if i.val ≤ 4 then r.classes[Fin.ofNat 4 (i.val - 1)].data
  else r.zones[Fin.ofNat 8 (i.val - 5)].data

/-- R124, R180, unit 5: a valve channel. -/
def Valve.data (v : Valve) : List Byte :=
  [byteOf v.state.code] ++ bytes16 v.position ++ bytes16 v.target ++ v.slot.data
    ++ [flagByte (!v.toOpen)] ++ bytes16 v.remaining ++ bytes16 v.searchCount
    ++ [byteOf v.cause.code, flagByte v.clearing, flagByte v.en, flagByte v.drst, flagByte v.closed,
        flagByte v.man, flagByte v.dflt]

/-- R134: how many channels are in a fade. -/
def Fade.size (f : Fade) : Nat := f.channels.toList.countP Option.isSome

/-- R147, R180, unit 6: a playback. -/
def Playback.data (p : Playback) : List Byte :=
  [byteOf p.state.code, byteOf p.pointer.val] ++ bytes16 (orNone16 (p.current.map Fin.val))
    ++ bytes16 p.fade.count ++ bytes16 p.fade.length ++ bytes16 p.fade.size

/-- Sixteen levels of a lighting block. -/
def blockLevels (levels : Vector Nat 256) (b : Fin 16) : List Byte :=
  (List.finRange 16).map (fun j => byteOf levels[blockChannel b j])

/-- R180, unit 7: the index is playback × 16 + block. -/
def CueEngine.levelsData (e : CueEngine) (i : Fin 32) : List Byte :=
  blockLevels (if i.val < 16 then e.playbackShow.levels else e.playbackHouse.levels)
    (Fin.ofNat 16 i.val)

/-- R168, R180, unit 9: a capture channel. -/
def CaptureChannel.data (c : CaptureChannel) : List Byte :=
  [byteOf c.state.code] ++ bytes16 c.pointer ++ bytes16 c.remaining ++ bytes16 c.stored
    ++ bytes16 (orNone16 c.triggerAt) ++ [byteOf c.status.code]

/-- A sample in three bytes. -/
def Sample.data (x : Sample) : List Byte := bytesSigned x.value ++ [byteOf x.quality.code]

/-- R180, unit 10: up to twelve samples from a place upward. -/
def Tcu.samplesData (t : Tcu) (place : Fin 4096) : List Byte :=
  (List.range' place.val (min 12 (4096 - place.val))).flatMap (fun a => (t.sampleAt a).data)

/-- R16, R20, R180, unit 11: the counts of a port, its overrun flag and its divisor. -/
def Line.data (l : Line) : List Byte :=
  let c := l.counts
  bytes16 c.framing ++ bytes16 c.truncated ++ bytes16 c.length ++ bytes16 c.gap ++ bytes16 c.check
    ++ bytes16 c.overrun ++ bytes16 c.requestOverrun ++ bytes16 c.unroutable ++ bytes16 c.relayDrop
    ++ [flagByte c.overrunFlag] ++ bytes16 l.divisor

/-- The port of a port number (R16). -/
def portOfNumber (n : Nat) : Port := if n = 0 then .plant else if n = 1 then .bowl else .supervisor

/-- R180, unit 11: for port 2 the index, the search setting and the consecutive-failure count. -/
def State.portData (s : State) (i : Fin 3) : List Byte :=
  let p := s.supervisor
  (s.line (portOfNumber i.val)).data ++
    (if i.val = 2 then [byteOf p.index.val, flagByte p.search, byteOf p.fails] else [])

/-- R180, unit 12: the reset-cause record and the station address. -/
def Mgr.data (m : Mgr) : List Byte :=
  [flagByte m.power, flagByte m.lineFlag, flagByte m.supervisorFlag, byteOf m.address]

/-- R180: READ_STATUS of a unit, the index operands following the unit code. -/
def State.readUnit (s : State) (unit : Nat) (operands : List Byte) : Answer :=
  match unit with
  | 0 => s.readIndexed 256 1 operands (fun i => s.ptw.points[i].data s.now)
  | 1 => s.pollIndexed operands (fun e => e.status s.now)
  | 2 => s.readIndexed 4 1 operands (fun z => s.fcu.zones[z].data)
  | 3 => s.readIndexed 1 1 operands (fun _ => s.fcu.data s.now)
  | 4 => s.readIndexed 13 1 operands s.hau.result.data
  | 5 => s.readIndexed 4 1 operands (fun c => (s.valve c).data)
  | 6 => s.readIndexed 2 1 operands (fun i =>
      (if i.val = 0 then s.cue.playbackShow else s.cue.playbackHouse).data)
  | 7 => s.readIndexed 32 1 operands s.cue.levelsData
  | 8 => s.readIndexed 16 1 operands (fun b =>
      blockLevels s.cue.levelMap b ++ [flagByte s.cue.due[b]])
  | 9 => s.readIndexed 8 1 operands (fun i => s.tcu.channels[i].data)
  | 10 => s.readIndexed 4096 2 operands s.tcu.samplesData
  | 11 => s.readIndexed 3 1 operands s.portData
  | 12 => s.readIndexed 1 1 operands (fun _ => s.mgr.data)
  | _ => s.refuse .badRequest

/-- R180: READ_STATUS. -/
def State.readStatus (s : State) (operands : List Byte) : Answer :=
  match operands with
  | unit :: rest => s.readUnit unit.toNat rest
  | [] => s.refuse .badRequest

/-! ### The other requests (R179) -/

/-- R63: VALIDATE. -/
def State.validateTable (s : State) : Answer :=
  if s.fcu.tableOk then (s.setFcu { s.fcu with valid := true }).doneAs
  else ⟨.badValue, [], s.setFcu { s.fcu with valid := false }⟩

/-- R153: SELECT_PROFILE. -/
def State.requestProfile (s : State) (operands : List Byte) : Answer :=
  s.indexed 8 [1] operands (fun k _ =>
    s.allowed s.prf.profiles[k].valid .notReady (s.takeSelection k 1).doneAs)

/-- The playback of a number 0 or 1. -/
def playbackOfNumber (n : Nat) : PlaybackId := if n = 0 then .showPlayback else .housePlayback

/-- R137: the answer to GO: NOT_READY when the playback is in FAULT after it. -/
def State.requestGo (s : State) (operands : List Byte) : Answer :=
  s.indexed 2 [1] operands (fun i _ =>
    let b := playbackOfNumber i.val
    let s := s.goPlayback b
    ⟨if (s.playback b).state = .fault then .notReady else .done, [], s⟩)

/-- R138: STOP. -/
def State.requestStop (s : State) (operands : List Byte) : Answer :=
  s.indexed 2 [1] operands (fun i _ => (s.stopPlayback (playbackOfNumber i.val)).doneAs)

/-- R116: HOME_VALVE by the channel's state. -/
def State.homeChannel (s : State) (c : Fin 4) : Answer :=
  let v := s.valve c
  match v.state with
  | .ready => (s.startHome c).doneAs
  | .unhomed => (s.startHome c).doneAs
  | .seeking => (s.setValve c { v with slot := .home }).doneAs
  | .settling => (s.setValve c { v with slot := .home }).doneAs
  | .homing _ => s.refuse .busy
  | .manual => s.refuse .notReady
  | .fault => s.refuse .notReady

/-- R116: HOME_VALVE. -/
def State.requestHome (s : State) (operands : List Byte) : Answer :=
  s.indexed 4 [1] operands (fun c _ => s.homeChannel c)

/-- R163: ENABLE_CAPTURE of a channel, its checks in their order. -/
def State.enableChannel (s : State) (i : Fin 8) : Answer :=
  let c := s.tcu.channels[i]
  s.allowed (!c.active && decide (c.descriptor.length ≠ 0) && s.captureSourceOk c.descriptor)
    .notReady (s.allowed (!s.captureOverlap i) .inUse
      (s.setTcu { s.tcu with channels := s.tcu.channels.set i c.started }).doneAs)

/-- R163: ENABLE_CAPTURE. -/
def State.requestEnable (s : State) (operands : List Byte) : Answer :=
  s.indexed 8 [1] operands (fun i _ => s.enableChannel i)

/-- R167: DISABLE_CAPTURE ends an ARMED or RUNNING channel and is answered DONE in every state. -/
def State.requestDisable (s : State) (operands : List Byte) : Answer :=
  s.indexed 8 [1] operands (fun i _ =>
    (if s.tcu.channels[i].active then s.endCapture i .disabled else s).doneAs)

/-- A request whose one operand is a value of one byte. -/
def State.valued (s : State) (operands : List Byte) (ok : Nat → Bool) (act : Nat → State) : Answer :=
  match operands with
  | [b] => s.checked (ok b.toNat) (act b.toNat).doneAs
  | _ => s.refuse .badRequest

/-- R156: SET_BOILER_LIMIT. -/
def State.requestLimit (s : State) (operands : List Byte) : Answer :=
  s.valued operands (fun n => decide (n ≤ 2)) (fun n => s.setPrf { s.prf with limit := n })

/-- R174: SET_ALARM_THRESHOLD. -/
def State.requestThreshold (s : State) (operands : List Byte) : Answer :=
  s.valued operands (fun n => decide (1 ≤ n) && decide (n ≤ 7))
    (fun n => s.setNtu { s.ntu with threshold := n })

/-- R18: a new divisor applies at a field port: a telegram being assembled is abandoned, and the receiver
looks for a start bit at the new rate from then on. R12 leaves open whether a port that is quiet stays so
when its character time grows; it does (log 27). -/
def FieldPort.applyDivisor (f : FieldPort) (now n : Nat) : FieldPort :=
  { f with line := { f.line with divisor := n, receiver := .hunt, lookFrom := now },
           newDivisor := none }

/-- R18: SET_RATE on a field port: at once if the transmitter is IDLE, else at the end of the
transmission in progress. -/
def FieldPort.setRate (f : FieldPort) (now n : Nat) : FieldPort :=
  if f.line.sending.isNone then f.applyDivisor now n else { f with newDivisor := some n }

/-- R18: SET_RATE on the supervisor link writes a rate list entry; at the search index it applies
from the end of the REPLY. -/
def SupervisorPort.setRate (p : SupervisorPort) (entry : Fin 4) (n : Nat) : SupervisorPort :=
  { p with rateList := p.rateList.set entry n, rateAtReply := p.rateAtReply || entry == p.index }

/-- R18: the divisor of a port is set. -/
def State.setRate (s : State) (port : Fin 3) (entry n : Nat) : State :=
  if port.val = 0 then s.setPlant (s.plant.setRate s.now n)
  else if port.val = 1 then s.setBowl (s.bowl.setRate s.now n)
  else s.setSupervisor (s.supervisor.setRate (Fin.ofNat 4 entry) n)

/-- R18, R179: SET_RATE. -/
def State.requestRate (s : State) (operands : List Byte) : Answer :=
  s.indexed 3 [1, 1, 2] operands (fun port fields =>
    match fields with
    | [entry, n] =>
      if entry ≤ (if port.val = 2 then 3 else 0) then
        s.checked (decide (n ≤ 4095)) (s.setRate port entry n).doneAs
      else s.refuse .badIndex
    | _ => s.refuse .badRequest)

/-- R18: SET_SEARCH. -/
def State.requestSearch (s : State) (operands : List Byte) : Answer :=
  s.valued operands (fun n => decide (n ≤ 1))
    (fun n => s.setSupervisor { s.supervisor with search := n == 1, fails := 0 })

/-- R16, R20: CLEAR_COUNTS zeroes the counts of a port and clears its overrun flag. -/
def State.requestClearCounts (s : State) (operands : List Byte) : Answer :=
  s.indexed 3 [1] operands (fun i _ =>
    let p := portOfNumber i.val
    (s.setLine p { s.line p with counts := .zero }).doneAs)

/-- R183: CLEAR_RESET_CAUSE. -/
def State.requestClearCause (s : State) (operands : List Byte) : Answer :=
  s.bare operands
    (s.setMgr { s.mgr with power := false, lineFlag := false, supervisorFlag := false }).doneAs

/-- R184: RESTART: its DONE reply brings the supervisor reset at its end. -/
def State.requestRestart (s : State) (operands : List Byte) : Answer :=
  s.bare operands (s.setMgr { s.mgr with restarting := true }).doneAs

/-- R123, R176: CLEAR_VALVE_FAULT: in FAULT the pulse starts and the request is held in hand; in any
other state NOT_READY. Orders 2 and 3 of R177 come first. -/
def State.carryClearFault (s : State) (r : Request) : State :=
  match r.operands with
  | [b] =>
    if h : b.toNat < 4 then
      let c : Fin 4 := ⟨b.toNat, h⟩
      if (s.valve c).state = .fault then
        (s.setValve c ((s.valve c).startPulse s.now)).setMgr
          { s.mgr with inHand := some ⟨r.source, r.tag, c⟩ }
      else (s.refuse .notReady).place 9#8 r
    else (s.refuse .badIndex).place 9#8 r
  | _ => (s.refuse .badRequest).place 9#8 r

/-- R8, R177: a request that R8, R178 and R180 do not know: BAD_REQUEST, 00h echoed for a missing
code or tag. -/
def State.carryUnknown (s : State) (source : Byte) (body : List Byte) : State :=
  s.reply source (body.getD 0 0#8) (body.getD 1 0#8) .badRequest []

/-! ### Carrying out (R176) -/

/-- A request command is carried out whole; other commands are no requests. -/
def State.carryOut (s : State) : Instr → State
  | .writeEntryPointRecord r => (s.writePoint r.operands).place 1#8 r
  | .writeEntryPollEntry r => (s.writePoll r.operands).place 1#8 r
  | .writeEntryFieldPortSetting r => (s.writeFieldPort r.operands).place 1#8 r
  | .writeEntrySaturationKnot r => (s.writeKnotEntry r.operands).place 1#8 r
  | .writeEntryFogConfiguration r => (s.writeFog r.operands).place 1#8 r
  | .writeEntryHeatPlantPart r => (s.writeHeatPart r.operands).place 1#8 r
  | .writeEntryLightingLoad r => (s.writeLoad r.operands).place 1#8 r
  | .writeEntryValveConfiguration r => (s.writeValve r.operands).place 1#8 r
  | .writeEntryProfile r => (s.writeProfile r.operands).place 1#8 r
  | .writeEntryCueRecord r => (s.writeCue r.operands).place 1#8 r
  | .writeEntrySpanEntry r => (s.writeSpan r.operands).place 1#8 r
  | .writeEntrySceneLevel r => (s.writeScene r.operands).place 1#8 r
  | .writeEntryCaptureDescriptor r => (s.writeDescriptor r.operands).place 1#8 r
  | .writeEntryNoticeLevel r => (s.writeLevel r.operands).place 1#8 r
  | .readEntry r => (s.readEntry r.operands).place 2#8 r
  | .readStatus r => (s.readStatus r.operands).place 4#8 r
  | .unknownRequest source body => s.carryUnknown source body
  | .validate r => (s.bare r.operands s.validateTable).place 3#8 r
  | .selectProfile r => (s.requestProfile r.operands).place 5#8 r
  | .go r => (s.requestGo r.operands).place 6#8 r
  | .stop r => (s.requestStop r.operands).place 7#8 r
  | .homeValve r => (s.requestHome r.operands).place 8#8 r
  | .clearValveFault r => s.carryClearFault r
  | .enableCapture r => (s.requestEnable r.operands).place 10#8 r
  | .disableCapture r => (s.requestDisable r.operands).place 11#8 r
  | .setBoilerLimit r => (s.requestLimit r.operands).place 12#8 r
  | .setAlarmThreshold r => (s.requestThreshold r.operands).place 13#8 r
  | .setRate r => (s.requestRate r.operands).place 14#8 r
  | .setSearch r => (s.requestSearch r.operands).place 15#8 r
  | .clearCounts r => (s.requestClearCounts r.operands).place 16#8 r
  | .clearResetCause r => (s.requestClearCause r.operands).place 17#8 r
  | .restart r => (s.requestRestart r.operands).place 18#8 r
  | .characterReceived _ _ => s
  | .gapTimerExpiry _ => s
  | .portQuiet _ => s
  | .transmissionEnd _ => s
  | .replyWindowExpiry _ => s
  | .pollDue _ _ => s
  | .inboundTelegramTake => s
  | .staleExpiry _ => s
  | .holdExpiry _ => s
  | .refreshExpiry _ => s
  | .overrideExpiry _ => s
  | .fogEvaluation => s
  | .heatEvaluation => s
  | .seekStepEnd _ => s
  | .searchStepEnd _ => s
  | .seatStepEnd _ => s
  | .settleEnd _ => s
  | .closedAssert _ => s
  | .closedRelease _ => s
  | .manAssert _ => s
  | .manRelease _ => s
  | .dfltAssert _ => s
  | .dfltRelease _ => s
  | .faultClearPulseEnd _ => s
  | .valveLinesPlaced => s
  | .cueFrame => s
  | .powerOn => s
  | .lineReset => s
  | .workStart _ => s

/-! ### The request queue (R15, R176) -/

/-- R176: no request is in hand and the slot is empty. -/
def Mgr.ready (m : Mgr) : Bool := m.inHand.isNone && m.slot.isNone

/-- R176: MGR takes the oldest request of its queue when it is ready, and carries it out. -/
def State.takeRequest (s : State) : State :=
  match s.mgr.ready, s.mgr.queue with
  | true, t :: rest => (s.setMgr { s.mgr with queue := rest }).carryOut (decodeRequest t.src t.body)
  | _, _ => s

/-- R15: a REQUEST goes to the tail of the request queue when it holds fewer than 4, else it is
discarded and counted as a request overrun. -/
def State.enqueueRequest (s : State) (t : Telegram) : State :=
  if s.mgr.queue.length < 4 then s.setMgr { s.mgr with queue := s.mgr.queue ++ [t] }
  else s.portEvent .supervisor .requestOverrun

/-- R15, R176: a REQUEST is delivered. With the queue empty and MGR ready it is carried out at once;
else it goes through the queue. -/
def State.deliver (s : State) (t : Telegram) (act : State → State) : State :=
  if s.mgr.ready ∧ s.mgr.queue = [] then act s else (s.enqueueRequest t).takeRequest

/-- The REQUEST telegram of a body from a source station. -/
def State.requestTelegram (s : State) (source : Byte) (body : List Byte) : Telegram :=
  ⟨s.ownAddress, source, kindRequest, body⟩

end Sys2Proof.Machine
end

