-- ==== Sys2Proof/Machine/Receive.lean ====
section
/-! DEFINITION. Receivers (1.5 to 1.7): what a character does by the receiver state, the gap timer,
the check of a whole telegram, the rate search of the supervisor link. -/

namespace Sys2Proof.Machine

/-- The state with another receiver state at a port. -/
def State.setReceiver (s : State) (p : Port) (r : Receiver) : State :=
  s.setLine p { s.line p with receiver := r }

/-! ### The rate search (R17) -/

/-- R17: the search index moves to the next entry, whose divisor the link takes; HUNT. -/
def SupervisorPort.rateStep (p : SupervisorPort) : SupervisorPort :=
  { p with index := p.index + 1, fails := 0,
           line := { p.line with divisor := p.rateList[p.index + 1], receiver := .hunt } }

/-- R17: a failure while search is on counts, or is a rate step when it would bring the count to 4. -/
def State.searchFailure (s : State) : State :=
  let p := s.supervisor
  if !p.search then s
  else if p.fails < 3 then s.setSupervisor { p with fails := p.fails + 1 }
  else (s.setSupervisor p.rateStep).portEvent .supervisor .rateStep

/-- R13, R14: a framing error or a check mismatch is counted; on the supervisor link it is a failure
for the rate search. R16 and R17 leave open which PORT_ERROR comes first when the failure is a rate step;
the failure's own does, so the record keeps that of the step, detail 8 (R171; log 38). -/
def State.lineFailure (s : State) (p : Port) (e : PortEvent) : State :=
  let s := s.portEvent p e
  match p with
  | .plant => s
  | .bowl => s
  | .supervisor => s.searchFailure

/-! ### Good telegrams (R15, R30, R32) -/

/-- R15, R30: a good telegram at a field port: its note is made at its completion, whether or not
the inbound queue has room. -/
def State.goodField (s : State) (g : Segment) (t : Telegram) : State :=
  let r := (s.field g).note t.src
  (s.setField g r.2).enqueueInbound ⟨t, g.port, r.1⟩

/-- R14, R15: a good telegram at the supervisor link zeroes the failures; a REQUEST to the part's own
station goes to MGR, any other telegram to the inbound queue. -/
def State.goodSupervisor (s : State) (t : Telegram) : State :=
  let s := s.setSupervisor { s.supervisor with fails := 0 }
  if t.kind = kindRequest ∧ t.dst = s.ownAddress then
    s.deliver t (fun s => s.carryOut (decodeRequest t.src t.body))
  else s.enqueueInbound ⟨t, .supervisor, .notInWindow⟩

/-- R15: a good telegram goes to its next place. -/
def State.goodTelegram (s : State) (p : Port) (t : Telegram) : State :=
  match p with
  | .plant => s.goodField .plant t
  | .bowl => s.goodField .bowl t
  | .supervisor => s.goodSupervisor t

/-- R4, R14: a telegram is complete: HUNT, and the check is compared. -/
def State.completeTelegram (s : State) (p : Port) (got : List Byte) : State :=
  let s := s.setReceiver p .hunt
  if checkAgrees got then s.goodTelegram p (telegramOf got) else s.lineFailure p .check

/-! ### Characters (R13, R14) -/

/-- R14: a good unmarked character in ASSEMBLE, `got` being the bytes before it. -/
def State.extend (s : State) (p : Port) (got : List Byte) (data : Byte) : State :=
  if got.length = 3 ∧ 40 < data.toNat then (s.setReceiver p .hunt).portEvent p .length
  else if wholeTelegram (got ++ [data]) then s.completeTelegram p (got ++ [data])
  else s.setReceiver p (.assemble (got ++ [data]))

/-- R13, R14: what a character does by the receiver state. -/
def State.character (s : State) (p : Port) (c : Character) : State :=
  if !c.stop then (s.setReceiver p .hunt).lineFailure p .framing
  else match (s.line p).receiver, c.mark with
    | .hunt, true => s.setReceiver p (.assemble [c.data])
    | .hunt, false => s
    | .assemble _, true => (s.setReceiver p (.assemble [c.data])).portEvent p .truncated
    | .assemble got, false => s.extend p got c.data

/-- R12: the receiver of a field port is switched off while TXE is asserted; the supervisor link has
no TXE. -/
def State.receiverOff (s : State) : Port → Bool
  | .plant => s.plant.txe
  | .bowl => s.bowl.txe
  | .supervisor => false

/-- R2, R12, R14: the end of the stop bit of a character: the gap timer and the two character times of
the quiet condition run from here, and the receiver looks for a start bit from that stop bit's ninth
sample on, eight sample times before its end. -/
def State.markEnd (s : State) (p : Port) : State :=
  let l := s.line p
  let s := s.setLine p { l with lastEnd := s.now, lookFrom := s.now - 8 * l.sampleTime }
  match p with
  | .plant => s.setPlant { s.plant with quiet := false }
  | .bowl => s.setBowl { s.bowl with quiet := false }
  | .supervisor => s

/-- R2: when the stop bit ends of a character whose start bit lies `skipped` samples from where the
receiver looked; never before `now` (log 9). -/
def Line.charEnd (l : Line) (now skipped : Nat) : Nat :=
  max now (l.lookFrom + (skipped + 176) * l.sampleTime)

/-- R14: the gap timer has expired before the start bit of a character that ends at `charEnd`: two
character times and more have passed since the last one, and a telegram is being assembled. -/
def Line.gapBefore (l : Line) (charEnd : Nat) : Bool :=
  l.receiver != .hunt && decide (l.lastEnd + 3 * l.charTime < charEnd)

/-- R14: the gap timer expires: the telegram is abandoned and counted. -/
def State.gapExpired (s : State) (p : Port) : State := (s.setReceiver p .hunt).portEvent p .gap

/-- R2, R12, R13, R14: the samples of the line of a port, from where its receiver looks, bring a
character. A gap timer that expired before its start bit is taken first. -/
def State.characterReceived (s : State) (p : Port) (samples : List Bool) : State :=
  if s.receiverOff p then s
  else match takeCharacter samples with
    | none => s
    | some (skipped, c) =>
      let l := s.line p
      let charEnd := l.charEnd s.now skipped
      let s := s.comesAt charEnd
      let s := if l.gapBefore charEnd then s.gapExpired p else s
      (s.markEnd p).character p c

/-- R14: the gap timer of an assembling receiver expires, two character times after the end of the
last character. -/
def State.gapTimerExpiry (s : State) (p : Port) : State :=
  let l := s.line p
  match l.receiver with
  | .hunt => s
  | .assemble _ =>
    (s.comesAt (l.lastEnd + 2 * l.charTime)).gapExpired p

/-- R12: a field port becomes quiet. -/
def State.portQuiet (s : State) (g : Segment) : State :=
  let f := s.field g
  if f.line.sending.isSome || f.quiet then s
  else (s.comesAt (f.line.lastEnd + 2 * f.line.charTime)).setField g { f with quiet := true }

/-- R28: the due time of a filled poll entry comes. -/
def State.pollDue (s : State) (g : Segment) (slot : Fin 32) : State :=
  let e := (s.field g).polls[slot]
  if e.station = 0 then s
  else match e.dueTime with
    | some t => s.comesAt t
    | none => s

end Sys2Proof.Machine
end

