-- ==== Sys2Proof/Machine/Resets.lean ====
section
/-! DEFINITION. The three resets (11.4) and the end of a transmission, which may bring one (R184). -/

namespace Sys2Proof.Machine

/-! ### Line ports and traffic (R18, R19, R39) -/

/-- R19: a line part at a reset: HUNT and IDLE. -/
def Line.stopped (l : Line) : Line := { l with receiver := .hunt, sending := none }

/-- R2, R12: the times of a line part that run from a reset: the last end, and the search for a start
bit. -/
def Line.timersFrom (l : Line) (now : Nat) : Line := { l with lastEnd := now, lookFrom := now }

/-- R39: an entry kept at a reset: UNPOLLED, misses 0, last poll none. -/
def PollEntry.afterReset (e : PollEntry) : PollEntry :=
  { e with state := .unpolled, misses := 0, lastPoll := none }

/-- R18: a divisor that waits for the end of a transmission applies when a reset cuts it short. -/
def FieldPort.cutDivisor (f : FieldPort) : Nat := f.newDivisor.getD f.line.divisor

/-- R18, R19, R39: a field port after a supervisor reset. -/
def FieldPort.afterReset (f : FieldPort) : FieldPort :=
  { f with line := { f.line.stopped with divisor := f.cutDivisor }, newDivisor := none,
           quiet := false, polls := f.polls.map PollEntry.afterReset, window := none,
           relayDown := [], nonPoll := 0 }

/-- R19: what a line reset sets in a line part beside: its divisor, its counts and flag. -/
def Line.cleared (l : Line) (divisor : Nat) : Line := { l with divisor := divisor, counts := .zero }

/-- R19, R39: a field port after a line reset. -/
def FieldPort.afterLineReset (f : FieldPort) : FieldPort :=
  let f := f.afterReset
  { f with line := f.line.cleared 3 }

/-- R19: the supervisor link after a supervisor reset: it goes on at the current entry. -/
def SupervisorPort.afterReset (p : SupervisorPort) : SupervisorPort :=
  { p with line := { p.line.stopped with divisor := p.rateList[p.index] }, fails := 0,
           rateAtReply := false }

/-- R19: the supervisor link after a line reset. -/
def SupervisorPort.afterLineReset (p : SupervisorPort) : SupervisorPort :=
  { line := p.line.stopped.cleared 7, rateList := defaultRates, index := 0, search := true,
    fails := 0, rateAtReply := false }

/-! ### The other blocks -/

/-- R175: the notice unit after a line or supervisor reset: its records cleared. -/
def Ntu.afterReset (n : Ntu) : Ntu := { n with records := .replicate 18 .cleared }

/-- R185: the management responder after a line or supervisor reset, but for the reset cause. -/
def Mgr.afterReset (m : Mgr) : Mgr :=
  { m with queue := [], inHand := none, slot := none, restarting := false }

/-- R126: the valve channels after a line or supervisor reset, before their lines are read. -/
def Vdu.afterReset (v : Vdu) : Vdu := { v with valves := v.valves.map Valve.afterReset }

/-- R169: the capture channels after a line or supervisor reset. -/
def Tcu.afterReset (t : Tcu) : Tcu := { t with channels := t.channels.map CaptureChannel.afterReset }

/-- R12, R65, R87, R142, R182: every time that is measured from a reset runs from now. -/
def State.startTimers (s : State) : State :=
  { s with plant := { s.plant with line := s.plant.line.timersFrom s.now, quiet := false },
           bowl := { s.bowl with line := s.bowl.line.timersFrom s.now, quiet := false },
           supervisor := { s.supervisor with line := s.supervisor.line.timersFrom s.now },
           fcu := { s.fcu with nextEval := s.now + seconds 10 },
           hau := { s.hau with nextEval := s.now + seconds 2 },
           cue := { s.cue with nextFrame := s.now + millis 25 } }

/-- What a line and a supervisor reset set alike in every block (R39, R61, R84, R109, R126, R149,
R159, R169, R175, R185). -/
def State.warmReset (s : State) : State :=
  let s := s.resetCue s.now
  { s with plant := s.plant.afterReset, bowl := s.bowl.afterReset,
           supervisor := s.supervisor.afterReset, traffic := .cleared, ptw := s.ptw.afterReset,
           fcu := s.fcu.restarted (s.now + seconds 10), hau := s.hau.restarted (s.now + seconds 2),
           vdu := s.vdu.afterReset, tcu := s.tcu.afterReset, ntu := s.ntu.afterReset,
           mgr := s.mgr.afterReset }

/-- R183, R184: the supervisor reset, taken at the end of RESTART's REPLY; the part is not held. -/
def State.supervisorReset (s : State) : State :=
  let s := s.warmReset.startTimers
  (s.setMgr { s.mgr with supervisorFlag := true }).readAllLines

/-- R19, R182, R183: the line reset of a working part, which is held from here. -/
def State.lineReset (s : State) : State :=
  let s := s.warmReset
  { s with plant := s.plant.afterLineReset, bowl := s.bowl.afterLineReset,
           supervisor := s.supervisor.afterLineReset, mgr := { s.mgr with lineFlag := true },
           hold := .lineReset }

/-- R182: power-on: every block at its power-on values, the part held. The clock, the levels of the
valve input lines and the waiting commands are the outside's and stay as they are (log 8). -/
def State.powerOn (s : State) : State :=
  { State.reset with
      now := s.now, races := s.races, pending := s.pending,
      vdu := { Vdu.powerOn with
        valves := s.vdu.valves.map (fun v => Valve.powerOn v.closed v.man v.dflt) } }

/-- R181: the station address of a reading of the straps. -/
def strapAddress (straps : BitVec 7) : Nat :=
  if straps.toNat = 0 ∨ straps.toNat = 127 then 126 else straps.toNat

/-- R175, R181, R182: the straps are read, START is raised and the times from the reset begin. -/
def State.beginWork (s : State) (straps : BitVec 7) (kind : Nat) : State :=
  let s := s.startTimers
  let s := s.setMgr { s.mgr with address := strapAddress straps }
  (s.setHold .working).raise .start kind (strapAddress straps)

/-- R125, R126, R182: work starts after the hold of a power-on or of a line reset. After power-on the
valve channels are placed once their inputs have passed the 2 ms filter (R110). -/
def State.workStart (s : State) (straps : BitVec 7) : State :=
  match s.hold with
  | .working => s
  | .powerOn =>
    let s := s.beginWork straps 0
    s.setVdu { s.vdu with linesPlaced := false, linesAt := s.now + millis 2 }
  | .lineReset => (s.beginWork straps 1).readAllLines

/-! ### The end of a transmission (R11, R18, R29, R34, R38, R184) -/

/-- R29: the window that a telegram opens, or none. -/
def FieldPort.windowFor (f : FieldPort) (now : Nat) (x : Sending) : Option Window :=
  let awaited := if x.telegram.dst = 127#8 then none else some x.telegram.dst
  match x.kind with
  | .poll => some ⟨awaited, true, false, now + millis f.windowLength⟩
  | .relay => some ⟨awaited, false, false, now + millis f.windowLength⟩
  | _ => f.window

/-- R34: the consecutive non-poll count after the end of a transmission. -/
def FieldPort.countAfter (f : FieldPort) (x : Sending) : Nat :=
  match x.kind with
  | .poll => f.nonPoll
  | _ => min 4 (f.nonPoll + 1)

/-- R11, R12, R18, R29, R34: a field port after the end of its transmission. -/
def FieldPort.ended (f : FieldPort) (now : Nat) (x : Sending) : FieldPort :=
  let g := { f with line := { f.line with sending := none }.timersFrom now, quiet := false,
                    nonPoll := f.countAfter x, window := f.windowFor now x }
  match f.newDivisor with
  | some n => g.applyDivisor now n
  | none => g

/-- R11: the transmission of a field port ends. -/
def State.endFieldTransmission (s : State) (g : Segment) : State :=
  let f := s.field g
  match f.line.sending with
  | none => s
  | some x =>
    let s := s.comesAt x.endAt
    s.setField g (f.ended s.now x)

/-- R18: a SET_RATE of the current entry applies at the end of the REPLY: the link takes the entry at
the search index as it then stands. -/
def SupervisorPort.replyEnded (p : SupervisorPort) (now : Nat) : SupervisorPort :=
  if p.rateAtReply then
    { p with line := { p.line with divisor := p.rateList[p.index], receiver := .hunt,
                                   lookFrom := now },
             rateAtReply := false }
  else p

/-- R172: at the end of a REPLY, MGR's next request and the sender's next choice come together; either
is taken first (log 5). Without a waiting request nothing is to be decided. -/
def State.afterReply (s : State) : State :=
  match s.mgr.queue with
  | [] => s
  | _ :: _ =>
    let r := s.race
    if r.1 % 2 = 0 then r.2.takeRequest else r.2.sendNext.takeRequest

/-- R38, R184: the end of the transmission of a REPLY empties the slot; of RESTART's it is the
supervisor reset. -/
def State.endReply (s : State) : State :=
  let s := s.setSupervisor (s.supervisor.replyEnded s.now)
  if s.mgr.restarting then s.supervisorReset
  else (s.setMgr { s.mgr with slot := none }).afterReply

/-- R11, R38: the transmission of the supervisor link ends. -/
def State.endUpTransmission (s : State) : State :=
  match s.supervisor.line.sending with
  | none => s
  | some x =>
    let s := s.comesAt x.endAt
    let p := s.supervisor
    let s := s.setSupervisor { p with line := { p.line with sending := none } }
    if x.kind = .reply then s.endReply else s

/-- R11: the transmission of a port ends. -/
def State.transmissionEnd (s : State) : Port → State
  | .plant => s.endFieldTransmission .plant
  | .bowl => s.endFieldTransmission .bowl
  | .supervisor => s.endUpTransmission

end Sys2Proof.Machine
end

