-- ==== Sys2Proof/Machine/CommandsLine.lean ====
section
/-! DEFINITION. The meanings of the line and traffic commands. -/

namespace Sys2Proof.Machine

/-- What a command answers. -/
abbrev Reaction : Type := Host.Outcome State Fault Refusal

/-- A command acts while the part works; while it is held nothing of its work runs (R182). At its end
every free transmitter takes its next telegram and ALM is judged (R33, R38, R173; log 20). -/
def State.work (s : State) (act : State → State) : Reaction :=
  .next (if s.hold = .working then act s else s).arbitrate

/-- CHARACTER_RECEIVED (R2, R12 to R17): the characters of a line; while the part is held its receivers take none (R182). -/
def execCharacterReceived (port : Port) (samples : List Bool) (s : State) : Reaction :=
  s.work (State.characterReceived · port samples)

/-- GAP_TIMER_EXPIRY (R14). -/
def execGapTimerExpiry (port : Port) (s : State) : Reaction :=
  s.work (State.gapTimerExpiry · port)

/-- PORT_QUIET (R12, R33): the port becomes quiet, and its scheduler chooses. -/
def execPortQuiet (segment : Segment) (s : State) : Reaction :=
  s.work (State.portQuiet · segment)

/-- TRANSMISSION_END (R11, R18, R29, R34, R38, R184). -/
def execTransmissionEnd (port : Port) (s : State) : Reaction :=
  s.work (State.transmissionEnd · port)

/-- REPLY_WINDOW_EXPIRY (R31). -/
def execReplyWindowExpiry (segment : Segment) (s : State) : Reaction :=
  s.work (State.windowExpiry · segment)

/-- POLL_DUE (R28, R33): the due time of an entry comes, and the scheduler of a free port chooses. -/
def execPollDue (segment : Segment) (slot : Fin 32) (s : State) : Reaction :=
  s.work (State.pollDue · segment slot)

/-- INBOUND_TELEGRAM_TAKE (R20 to R26). -/
def execInboundTelegramTake (s : State) : Reaction := s.work State.takeInbound

end Sys2Proof.Machine
end

