-- ==== Sys2Proof/Machine/CommandsPoint.lean ====
section
/-! DEFINITION. The meanings of the point timing commands, the evaluations and the frame. -/

namespace Sys2Proof.Machine

/-- R49: the stale interval of a LIVE point has passed. -/
def State.staleExpiry (s : State) (i : Fin 256) : State :=
  let c := s.config i
  let r := s.runtime i
  match decide (c.inUse ∧ c.isInput ∧ r.watch = .live), r.lastArrival with
  | true, some t => (s.comesAt (millis (t + 1000 * c.staleAfter))).becomeStale i
  | _, _ => s

/-- R50: the hold time of a STALE point has passed. -/
def State.holdExpiry (s : State) (i : Fin 256) : State :=
  let c := s.config i
  let r := s.runtime i
  match decide (c.inUse ∧ c.isInput ∧ r.watch = .stale), r.staleSince with
  | true, some t => (s.comesAt (millis (t + 1000 * c.holdTime))).becomeLost i
  | _, _ => s

/-- R54: the refresh interval of an AUTO output point that is not pending has passed. -/
def State.refreshExpiry (s : State) (i : Fin 256) : State :=
  let p := s.ptw.points[i]
  match p.refreshing, p.runtime.lastSending with
  | true, some t =>
    let s := s.comesAt (millis (t + 1000 * p.config.refresh))
    s.setPtw (s.ptw.join i)
  | _, _ => s

/-- R56: the override expiry of an output point comes. -/
def State.overrideExpiry (s : State) (i : Fin 256) : State :=
  let c := s.config i
  match decide (c.inUse ∧ c.isInput = false), (s.runtime i).overrideAt with
  | true, some t => (s.comesAt (millis t)).endOverride i
  | _, _ => s

/-- STALE_EXPIRY (R49, R50). -/
def execStaleExpiry (point : Fin 256) (s : State) : Reaction :=
  s.work (State.staleExpiry · point)

/-- HOLD_EXPIRY (R50). -/
def execHoldExpiry (point : Fin 256) (s : State) : Reaction :=
  s.work (State.holdExpiry · point)

/-- REFRESH_EXPIRY (R54). -/
def execRefreshExpiry (point : Fin 256) (s : State) : Reaction :=
  s.work (State.refreshExpiry · point)

/-- OVERRIDE_EXPIRY (R56). -/
def execOverrideExpiry (point : Fin 256) (s : State) : Reaction :=
  s.work (State.overrideExpiry · point)

/-- FOG_EVALUATION (R65). -/
def execFogEvaluation (s : State) : Reaction := s.work State.fogEvaluation

/-- HEAT_EVALUATION (R87). -/
def execHeatEvaluation (s : State) : Reaction := s.work State.heatEvaluation

/-- CUE_FRAME (R142). -/
def execCueFrame (s : State) : Reaction := s.work State.cueFrame

end Sys2Proof.Machine
end

