-- ==== Sys2Proof/Machine/CommandsRequest.lean ====
section
/-! DEFINITION. The meanings of the management request commands: each delivers its REQUEST to MGR (R15, R176). -/

namespace Sys2Proof.Machine

/-- A REQUEST with this body from this station comes to the part; it is carried out by `act` when MGR
takes it at once (R15, R176). The command stands for the whole telegram (log 6). -/
def State.request (s : State) (source : Byte) (body : List Byte) (act : State → State) : Reaction :=
  s.work (fun s => s.deliver (s.requestTelegram source body) act)

/-- WRITE_ENTRY_POINT_RECORD (R42, R178). -/
def execWriteEntryPointRecord (r : Request) (s : State) : Reaction :=
  s.request r.source (1#8 :: r.tag :: 0#8 :: r.operands)
    (fun s => s.carryOut (.writeEntryPointRecord r))

/-- WRITE_ENTRY_POLL_ENTRY (R27, R178). -/
def execWriteEntryPollEntry (r : Request) (s : State) : Reaction :=
  s.request r.source (1#8 :: r.tag :: 1#8 :: r.operands)
    (fun s => s.carryOut (.writeEntryPollEntry r))

/-- WRITE_ENTRY_FIELD_PORT_SETTING (R29, R178). -/
def execWriteEntryFieldPortSetting (r : Request) (s : State) : Reaction :=
  s.request r.source (1#8 :: r.tag :: 2#8 :: r.operands)
    (fun s => s.carryOut (.writeEntryFieldPortSetting r))

/-- WRITE_ENTRY_SATURATION_KNOT (R62, R178). -/
def execWriteEntrySaturationKnot (r : Request) (s : State) : Reaction :=
  s.request r.source (1#8 :: r.tag :: 3#8 :: r.operands)
    (fun s => s.carryOut (.writeEntrySaturationKnot r))

/-- WRITE_ENTRY_FOG_CONFIGURATION (R64, R178). -/
def execWriteEntryFogConfiguration (r : Request) (s : State) : Reaction :=
  s.request r.source (1#8 :: r.tag :: 4#8 :: r.operands)
    (fun s => s.carryOut (.writeEntryFogConfiguration r))

/-- WRITE_ENTRY_HEAT_PLANT_PART (R85, R178). -/
def execWriteEntryHeatPlantPart (r : Request) (s : State) : Reaction :=
  s.request r.source (1#8 :: r.tag :: 5#8 :: r.operands)
    (fun s => s.carryOut (.writeEntryHeatPlantPart r))

/-- WRITE_ENTRY_LIGHTING_LOAD (R86, R178). -/
def execWriteEntryLightingLoad (r : Request) (s : State) : Reaction :=
  s.request r.source (1#8 :: r.tag :: 6#8 :: r.operands)
    (fun s => s.carryOut (.writeEntryLightingLoad r))

/-- WRITE_ENTRY_VALVE_CONFIGURATION (R111, R178). -/
def execWriteEntryValveConfiguration (r : Request) (s : State) : Reaction :=
  s.request r.source (1#8 :: r.tag :: 7#8 :: r.operands)
    (fun s => s.carryOut (.writeEntryValveConfiguration r))

/-- WRITE_ENTRY_PROFILE (R150, R178). -/
def execWriteEntryProfile (r : Request) (s : State) : Reaction :=
  s.request r.source (1#8 :: r.tag :: 8#8 :: r.operands)
    (fun s => s.carryOut (.writeEntryProfile r))

/-- WRITE_ENTRY_CUE_RECORD (R127, R178). -/
def execWriteEntryCueRecord (r : Request) (s : State) : Reaction :=
  s.request r.source (1#8 :: r.tag :: 9#8 :: r.operands)
    (fun s => s.carryOut (.writeEntryCueRecord r))

/-- WRITE_ENTRY_SPAN_ENTRY (R129, R178). -/
def execWriteEntrySpanEntry (r : Request) (s : State) : Reaction :=
  s.request r.source (1#8 :: r.tag :: 10#8 :: r.operands)
    (fun s => s.carryOut (.writeEntrySpanEntry r))

/-- WRITE_ENTRY_SCENE_LEVEL (R129, R178). -/
def execWriteEntrySceneLevel (r : Request) (s : State) : Reaction :=
  s.request r.source (1#8 :: r.tag :: 11#8 :: r.operands)
    (fun s => s.carryOut (.writeEntrySceneLevel r))

/-- WRITE_ENTRY_CAPTURE_DESCRIPTOR (R160, R178). -/
def execWriteEntryCaptureDescriptor (r : Request) (s : State) : Reaction :=
  s.request r.source (1#8 :: r.tag :: 12#8 :: r.operands)
    (fun s => s.carryOut (.writeEntryCaptureDescriptor r))

/-- WRITE_ENTRY_NOTICE_LEVEL (R170, R178). -/
def execWriteEntryNoticeLevel (r : Request) (s : State) : Reaction :=
  s.request r.source (1#8 :: r.tag :: 13#8 :: r.operands)
    (fun s => s.carryOut (.writeEntryNoticeLevel r))

/-- READ_ENTRY (R178). -/
def execReadEntry (r : Request) (s : State) : Reaction :=
  s.request r.source (2#8 :: r.tag :: r.operands) (fun s => s.carryOut (.readEntry r))

/-- READ_STATUS (R180). -/
def execReadStatus (r : Request) (s : State) : Reaction :=
  s.request r.source (4#8 :: r.tag :: r.operands) (fun s => s.carryOut (.readStatus r))

/-- UNKNOWN_REQUEST (R8). -/
def execUnknownRequest (source : Byte) (body : List Byte) (s : State) : Reaction :=
  s.request source body (fun s => s.carryUnknown source body)

/-- VALIDATE (R63). -/
def execValidate (r : Request) (s : State) : Reaction :=
  s.request r.source (3#8 :: r.tag :: r.operands) (fun s => s.carryOut (.validate r))

/-- SELECT_PROFILE (R153). -/
def execSelectProfile (r : Request) (s : State) : Reaction :=
  s.request r.source (5#8 :: r.tag :: r.operands) (fun s => s.carryOut (.selectProfile r))

/-- GO (R137). -/
def execGo (r : Request) (s : State) : Reaction :=
  s.request r.source (6#8 :: r.tag :: r.operands) (fun s => s.carryOut (.go r))

/-- STOP (R138). -/
def execStop (r : Request) (s : State) : Reaction :=
  s.request r.source (7#8 :: r.tag :: r.operands) (fun s => s.carryOut (.stop r))

/-- HOME_VALVE (R116). -/
def execHomeValve (r : Request) (s : State) : Reaction :=
  s.request r.source (8#8 :: r.tag :: r.operands) (fun s => s.carryOut (.homeValve r))

/-- CLEAR_VALVE_FAULT (R123). -/
def execClearValveFault (r : Request) (s : State) : Reaction :=
  s.request r.source (9#8 :: r.tag :: r.operands) (fun s => s.carryOut (.clearValveFault r))

/-- ENABLE_CAPTURE (R163). -/
def execEnableCapture (r : Request) (s : State) : Reaction :=
  s.request r.source (10#8 :: r.tag :: r.operands) (fun s => s.carryOut (.enableCapture r))

/-- DISABLE_CAPTURE (R167). -/
def execDisableCapture (r : Request) (s : State) : Reaction :=
  s.request r.source (11#8 :: r.tag :: r.operands) (fun s => s.carryOut (.disableCapture r))

/-- SET_BOILER_LIMIT (R156). -/
def execSetBoilerLimit (r : Request) (s : State) : Reaction :=
  s.request r.source (12#8 :: r.tag :: r.operands) (fun s => s.carryOut (.setBoilerLimit r))

/-- SET_ALARM_THRESHOLD (R174). -/
def execSetAlarmThreshold (r : Request) (s : State) : Reaction :=
  s.request r.source (13#8 :: r.tag :: r.operands) (fun s => s.carryOut (.setAlarmThreshold r))

/-- SET_RATE (R18). -/
def execSetRate (r : Request) (s : State) : Reaction :=
  s.request r.source (14#8 :: r.tag :: r.operands) (fun s => s.carryOut (.setRate r))

/-- SET_SEARCH (R18). -/
def execSetSearch (r : Request) (s : State) : Reaction :=
  s.request r.source (15#8 :: r.tag :: r.operands) (fun s => s.carryOut (.setSearch r))

/-- CLEAR_COUNTS (R16). -/
def execClearCounts (r : Request) (s : State) : Reaction :=
  s.request r.source (16#8 :: r.tag :: r.operands) (fun s => s.carryOut (.clearCounts r))

/-- CLEAR_RESET_CAUSE (R183). -/
def execClearResetCause (r : Request) (s : State) : Reaction :=
  s.request r.source (17#8 :: r.tag :: r.operands) (fun s => s.carryOut (.clearResetCause r))

/-- RESTART (R184). -/
def execRestart (r : Request) (s : State) : Reaction :=
  s.request r.source (18#8 :: r.tag :: r.operands) (fun s => s.carryOut (.restart r))

end Sys2Proof.Machine
end

