-- ==== Sys2Proof/Machine/CommandsReset.lean ====
section
/-! DEFINITION. The meanings of the reset commands. -/

namespace Sys2Proof.Machine

/-- POWER_ON (R182, R183, and every chapter's power-on column): in every state. -/
def execPowerOn (s : State) : Reaction := .next s.powerOn.arbitrate

/-- LINE_RESET (R19, R182, R183): RST has been asserted for 10 microseconds while the part works. -/
def execLineReset (s : State) : Reaction := s.work State.lineReset

/-- WORK_START (R175, R181, R182): the hold ends. -/
def execWorkStart (straps : BitVec 7) (s : State) : Reaction := .next (s.workStart straps).arbitrate

end Sys2Proof.Machine
end

