-- ==== Sys2Proof/Machine/CommandsValve.lean ====
section
/-! DEFINITION. The meanings of the valve channel commands. -/

namespace Sys2Proof.Machine

/-- R123, R176: CLEAR_VALVE_FAULT is the code of the request in hand. -/
def clearFaultCode : Byte := 9#8

/-- R123: the fault-clear pulse of a channel ends: the channel is judged, and the request in hand for
it is answered. -/
def State.faultClearPulseEnd (s : State) (c : Fin 4) : State :=
  let v := s.valve c
  if !v.clearing then s
  else
    let r := (s.comesAt v.pulseEnd).judgeCleared c
    match s.mgr.inHand with
    | none => r.2
    | some h =>
      if h.channel = c then
        r.2.reply h.source clearFaultCode h.tag (if r.1 then .done else .notReady) []
      else r.2

/-- SEEK_STEP_END (R114). -/
def execSeekStepEnd (channel : Fin 4) (s : State) : Reaction :=
  s.work (State.seekStepEnd · channel)

/-- SEARCH_STEP_END (R117, R118). -/
def execSearchStepEnd (channel : Fin 4) (s : State) : Reaction :=
  s.work (State.searchStepEnd · channel)

/-- SEAT_STEP_END (R117). -/
def execSeatStepEnd (channel : Fin 4) (s : State) : Reaction :=
  s.work (State.seatStepEnd · channel)

/-- SETTLE_END (R115). -/
def execSettleEnd (channel : Fin 4) (s : State) : Reaction :=
  s.work (State.settleEnd · channel)

/-- FAULT_CLEAR_PULSE_END (R123): the channel is judged, and the request in hand answered. -/
def execFaultClearPulseEnd (channel : Fin 4) (s : State) : Reaction :=
  s.work (State.faultClearPulseEnd · channel)

/-- VALVE_LINES_PLACED (R125). -/
def execValveLinesPlaced (s : State) : Reaction := s.work State.placeLines

/-- CLOSED_ASSERT (R120); while the part is held only the level changes (R182). -/
def execClosedAssert (channel : Fin 4) (s : State) : Reaction :=
  .next (s.closedAssert channel).arbitrate

/-- CLOSED_RELEASE (R120). -/
def execClosedRelease (channel : Fin 4) (s : State) : Reaction :=
  .next (s.closedRelease channel).arbitrate

/-- MAN_ASSERT (R121); while the part is held only the level changes (R182). -/
def execManAssert (channel : Fin 4) (s : State) : Reaction :=
  .next (s.manAssert channel).arbitrate

/-- MAN_RELEASE (R121); while the part is held only the level changes (R182). -/
def execManRelease (channel : Fin 4) (s : State) : Reaction :=
  .next (s.manRelease channel).arbitrate

/-- DFLT_ASSERT (R122); while the part is held only the level changes (R182). -/
def execDfltAssert (channel : Fin 4) (s : State) : Reaction :=
  .next (s.dfltAssert channel).arbitrate

/-- DFLT_RELEASE (R122). -/
def execDfltRelease (channel : Fin 4) (s : State) : Reaction :=
  .next (s.dfltRelease channel).arbitrate

end Sys2Proof.Machine
end

