-- ==== Sys2Proof/Machine/Dispatch.lean ====
section
/-! DEFINITION. Which meaning each command has, one arm for each row of spec/opcode_table.json. -/

namespace Sys2Proof.Machine

def exec (i : Instr) (s : State) : Host.Outcome State Fault Refusal :=
  match i with
  | .characterReceived port samples => Sys2Proof.Machine.execCharacterReceived port samples s
  | .gapTimerExpiry port => Sys2Proof.Machine.execGapTimerExpiry port s
  | .portQuiet segment => Sys2Proof.Machine.execPortQuiet segment s
  | .transmissionEnd port => Sys2Proof.Machine.execTransmissionEnd port s
  | .replyWindowExpiry segment => Sys2Proof.Machine.execReplyWindowExpiry segment s
  | .pollDue segment slot => Sys2Proof.Machine.execPollDue segment slot s
  | .inboundTelegramTake => Sys2Proof.Machine.execInboundTelegramTake s
  | .staleExpiry point => Sys2Proof.Machine.execStaleExpiry point s
  | .holdExpiry point => Sys2Proof.Machine.execHoldExpiry point s
  | .refreshExpiry point => Sys2Proof.Machine.execRefreshExpiry point s
  | .overrideExpiry point => Sys2Proof.Machine.execOverrideExpiry point s
  | .fogEvaluation => Sys2Proof.Machine.execFogEvaluation s
  | .heatEvaluation => Sys2Proof.Machine.execHeatEvaluation s
  | .seekStepEnd channel => Sys2Proof.Machine.execSeekStepEnd channel s
  | .searchStepEnd channel => Sys2Proof.Machine.execSearchStepEnd channel s
  | .seatStepEnd channel => Sys2Proof.Machine.execSeatStepEnd channel s
  | .settleEnd channel => Sys2Proof.Machine.execSettleEnd channel s
  | .closedAssert channel => Sys2Proof.Machine.execClosedAssert channel s
  | .closedRelease channel => Sys2Proof.Machine.execClosedRelease channel s
  | .manAssert channel => Sys2Proof.Machine.execManAssert channel s
  | .manRelease channel => Sys2Proof.Machine.execManRelease channel s
  | .dfltAssert channel => Sys2Proof.Machine.execDfltAssert channel s
  | .dfltRelease channel => Sys2Proof.Machine.execDfltRelease channel s
  | .faultClearPulseEnd channel => Sys2Proof.Machine.execFaultClearPulseEnd channel s
  | .valveLinesPlaced => Sys2Proof.Machine.execValveLinesPlaced s
  | .cueFrame => Sys2Proof.Machine.execCueFrame s
  | .writeEntryPointRecord r => Sys2Proof.Machine.execWriteEntryPointRecord r s
  | .writeEntryPollEntry r => Sys2Proof.Machine.execWriteEntryPollEntry r s
  | .writeEntryFieldPortSetting r => Sys2Proof.Machine.execWriteEntryFieldPortSetting r s
  | .writeEntrySaturationKnot r => Sys2Proof.Machine.execWriteEntrySaturationKnot r s
  | .writeEntryFogConfiguration r => Sys2Proof.Machine.execWriteEntryFogConfiguration r s
  | .writeEntryHeatPlantPart r => Sys2Proof.Machine.execWriteEntryHeatPlantPart r s
  | .writeEntryLightingLoad r => Sys2Proof.Machine.execWriteEntryLightingLoad r s
  | .writeEntryValveConfiguration r => Sys2Proof.Machine.execWriteEntryValveConfiguration r s
  | .writeEntryProfile r => Sys2Proof.Machine.execWriteEntryProfile r s
  | .writeEntryCueRecord r => Sys2Proof.Machine.execWriteEntryCueRecord r s
  | .writeEntrySpanEntry r => Sys2Proof.Machine.execWriteEntrySpanEntry r s
  | .writeEntrySceneLevel r => Sys2Proof.Machine.execWriteEntrySceneLevel r s
  | .writeEntryCaptureDescriptor r => Sys2Proof.Machine.execWriteEntryCaptureDescriptor r s
  | .writeEntryNoticeLevel r => Sys2Proof.Machine.execWriteEntryNoticeLevel r s
  | .readEntry r => Sys2Proof.Machine.execReadEntry r s
  | .readStatus r => Sys2Proof.Machine.execReadStatus r s
  | .unknownRequest source body => Sys2Proof.Machine.execUnknownRequest source body s
  | .validate r => Sys2Proof.Machine.execValidate r s
  | .selectProfile r => Sys2Proof.Machine.execSelectProfile r s
  | .go r => Sys2Proof.Machine.execGo r s
  | .stop r => Sys2Proof.Machine.execStop r s
  | .homeValve r => Sys2Proof.Machine.execHomeValve r s
  | .clearValveFault r => Sys2Proof.Machine.execClearValveFault r s
  | .enableCapture r => Sys2Proof.Machine.execEnableCapture r s
  | .disableCapture r => Sys2Proof.Machine.execDisableCapture r s
  | .setBoilerLimit r => Sys2Proof.Machine.execSetBoilerLimit r s
  | .setAlarmThreshold r => Sys2Proof.Machine.execSetAlarmThreshold r s
  | .setRate r => Sys2Proof.Machine.execSetRate r s
  | .setSearch r => Sys2Proof.Machine.execSetSearch r s
  | .clearCounts r => Sys2Proof.Machine.execClearCounts r s
  | .clearResetCause r => Sys2Proof.Machine.execClearResetCause r s
  | .restart r => Sys2Proof.Machine.execRestart r s
  | .powerOn => Sys2Proof.Machine.execPowerOn s
  | .lineReset => Sys2Proof.Machine.execLineReset s
  | .workStart straps => Sys2Proof.Machine.execWorkStart straps s

end Sys2Proof.Machine
end

