-- ==== Sys2Proof/Machine/Clock.lean ====
section
/-! DEFINITION. The part running by itself on an empty queue: one period of the reference passes, or a timed event
that is due is taken (log 4). Which of several due events is taken is the free order (log 5). -/

namespace Sys2Proof.Machine

/-- The commands among `x` when a condition holds. -/
def dueWhen (due : Bool) (x : Instr) : List Instr := if due then [x] else []

/-- The timed events of a port's receiver and transmitter that are due. A gap of exactly two character
times is still inside the telegram (R14), so the gap timer and the quiet time (R12) come together, and
either is taken first (log 10). -/
def State.duePort (s : State) (p : Port) : List Instr :=
  let l := s.line p
  dueWhen (l.receiver != .hunt && decide (l.lastEnd + 2 * l.charTime ≤ s.now)) (.gapTimerExpiry p)
    ++ match l.sending with
       | some x => dueWhen (decide (x.endAt ≤ s.now)) (.transmissionEnd p)
       | none => []

/-- The timed events of a field port's scheduler and window that are due. -/
def State.dueSegment (s : State) (g : Segment) : List Instr :=
  let f := s.field g
  dueWhen (f.line.sending.isNone && !f.quiet
      && decide (f.line.lastEnd + 2 * f.line.charTime ≤ s.now)) (.portQuiet g)
    ++ (match f.window with
        | some w => dueWhen (decide (w.expiry ≤ s.now)) (.replyWindowExpiry g)
        | none => [])
    ++ (match f.free, f.longestDue s.now with
        | true, some i => [.pollDue g i]
        | _, _ => [])

/-- R40: an interval in seconds from a moment of PTW's has passed; from none it never does. -/
def comes (now : Nat) (interval : Nat) : Option Nat → Bool
  | some t => millis (t + 1000 * interval) ≤ now
  | none => false

/-- The timed events of a point that are due. -/
def State.duePoint (s : State) (i : Fin 256) : List Instr :=
  let p := s.ptw.points[i]
  let c := p.config
  let r := p.runtime
  if !c.inUse then []
  else if c.isInput then
    dueWhen (r.watch == .live && comes s.now c.staleAfter r.lastArrival) (.staleExpiry i)
      ++ dueWhen (r.watch == .stale && comes s.now c.holdTime r.staleSince) (.holdExpiry i)
  else
    dueWhen (p.refreshing && comes s.now c.refresh r.lastSending) (.refreshExpiry i)
      ++ dueWhen (comes s.now 0 r.overrideAt) (.overrideExpiry i)

/-- The timed events of a valve channel that are due. -/
def State.dueValve (s : State) (c : Fin 4) : List Instr :=
  let v := s.valve c
  let ended := decide (v.stepEnd ≤ s.now)
  (match v.state with
    | .seeking => dueWhen ended (.seekStepEnd c)
    | .homing (.seat _) => dueWhen ended (.seatStepEnd c)
    | .homing _ => dueWhen ended (.searchStepEnd c)
    | .settling => dueWhen ended (.settleEnd c)
    | .unhomed => []
    | .ready => []
    | .manual => []
    | .fault => [])
    ++ dueWhen (v.clearing && decide (v.pulseEnd ≤ s.now)) (.faultClearPulseEnd c)

/-- The events of the part's own that are due; none while it is held (R182). -/
def State.dueEvents (s : State) : List Instr :=
  if s.hold = .working then
    s.duePort .plant ++ s.duePort .bowl ++ s.duePort .supervisor
      ++ s.dueSegment .plant ++ s.dueSegment .bowl
      ++ dueWhen (s.traffic.inbound != []) .inboundTelegramTake
      ++ (List.finRange 256).flatMap s.duePoint
      ++ dueWhen (decide (s.fcu.nextEval ≤ s.now)) .fogEvaluation
      ++ dueWhen (decide (s.hau.nextEval ≤ s.now)) .heatEvaluation
      ++ dueWhen (decide (s.cue.nextFrame ≤ s.now)) .cueFrame
      ++ (List.finRange 4).flatMap s.dueValve
      ++ dueWhen (!s.vdu.linesPlaced && decide (s.vdu.linesAt ≤ s.now)) .valveLinesPlaced
  else []

/-- One period of the reference passes (log 1). -/
def State.tick (s : State) : State := s.setNow (s.now + 1)

/-- What the part does by itself: one of the due events in the free order, or a period of the reference. -/
def State.idle (s : State) : Reaction :=
  match s.dueEvents with
  | [] => .next s.tick
  | i :: [] => exec i s
  | i :: j :: rest =>
    let r := s.race
    exec ((i :: j :: rest).getD (r.1 % (rest.length + 2)) i) r.2

end Sys2Proof.Machine
end

