-- ==== Sys2Proof/Safety.lean ====
section
/-! DEFINITION. What a sound state of the part is: for each block, what every step keeps. Each structure
names the rules of the spec that its parts follow from. A state that no run reaches may break them; every
statement that needs one of them has it as a premise. -/

namespace Sys2Proof.Machine

/-! ### When a request is carried out at once -/

/-- The part works, and MGR has no request in hand, no REPLY in its slot and none waiting: a REQUEST that
is delivered now is carried out at once (R15, R176). -/
def State.attends (s : State) : Prop :=
  s.hold = .working ∧ s.mgr.inHand = none ∧ s.mgr.slot = none ∧ s.mgr.queue = []

/-! ### Line and traffic -/

/-- Every queue keeps to its capacity (R15, R20, R23, R26). -/
structure State.QueuesBounded (s : State) : Prop where
  inbound  : s.traffic.inbound.length ≤ 16
  relayUp  : s.traffic.relayUp.length ≤ 16
  plant    : s.plant.relayDown.length ≤ 8
  bowl     : s.bowl.relayDown.length ≤ 8
  requests : s.mgr.queue.length ≤ 4

/-- Every count of a port is at most 65535 (R16, R20). -/
structure Counts.Bounded (c : Counts) : Prop where
  framing        : c.framing ≤ 65535
  truncated      : c.truncated ≤ 65535
  length         : c.length ≤ 65535
  gap            : c.gap ≤ 65535
  check          : c.check ≤ 65535
  overrun        : c.overrun ≤ 65535
  requestOverrun : c.requestOverrun ≤ 65535
  unroutable     : c.unroutable ≤ 65535
  relayDrop      : c.relayDrop ≤ 65535

/-- The counters of a field port: its counts, the consecutive non-poll count, the miss counts (R16, R20,
R31, R34). -/
structure FieldPort.CountsBounded (f : FieldPort) : Prop where
  line    : f.line.counts.Bounded
  nonPoll : f.nonPoll ≤ 4
  misses  : ∀ i : Fin 32, f.polls[i].misses ≤ 65535

/-- No counter of the part passes its maximum: the three ports, the search failures, which stay 0 while
search is off (R17), and the raisings of each notice source (R171). -/
structure State.CountersSaturate (s : State) : Prop where
  plant      : s.plant.CountsBounded
  bowl       : s.bowl.CountsBounded
  supervisor : s.supervisor.line.counts.Bounded
  fails      : s.supervisor.fails ≤ 3
  searchOff  : s.supervisor.search = false → s.supervisor.fails = 0
  raisings   : ∀ i : Fin 18, s.ntu.records[i].count ≤ 255
  stored     : ∀ i : Fin 8, s.tcu.channels[i].stored ≤ 65535

/-- A poll entry in use holds a station 1 to 126 at an interval 1 to 600 (2.2, R27). -/
def PollEntry.inRange (e : PollEntry) : Prop :=
  e.station ≠ 0 → e.station ≤ 126 ∧ 1 ≤ e.interval ∧ e.interval ≤ 600

/-- A station appears at most once across both poll lists (R27). -/
structure State.PollListsSound (s : State) : Prop where
  inRange : ∀ (g : Segment) (i : Fin 32), (s.field g).polls[i].inRange
  unique  : ∀ (g h : Segment) (i j : Fin 32), (s.field g).polls[i].station ≠ 0 →
    (s.field g).polls[i].station = (s.field h).polls[j].station → g = h ∧ i = j

/-! ### Points -/

/-- What the watch state of an input says of its other runtime fields (R44, R47 to R50). -/
structure Point.WatchSound (p : Point) : Prop where
  unseen : p.runtime.watch = .unseen →
    p.runtime.lastArrival = none ∧ p.runtime.limit = .normal ∧ p.runtime.seen = p.config.fallback
  lost   : p.runtime.watch = .lost →
    p.runtime.limit = .normal ∧ p.runtime.seen = p.config.fallback
  live   : p.runtime.watch = .live → p.runtime.lastArrival ≠ none
  stale  : p.runtime.watch = .stale → p.runtime.lastArrival ≠ none ∧ p.runtime.staleSince ≠ none
  span   : p.runtime.watch = .live ∨ p.runtime.watch = .stale →
    p.config.spanLow ≤ p.runtime.seen ∧ p.runtime.seen ≤ p.config.spanHigh

/-- The point table: the checks of a write hold of every record in use (R42), keys and roles are unique
among them (R43), and the pending output list holds exactly the points whose pending flag is set, each
once, and each an output in use (R44, R53). -/
structure State.PointsSound (s : State) : Prop where
  checked : ∀ i : Fin 256, (s.config i).inUse → (s.config i).ok
  keys    : ∀ i j : Fin 256, (s.config i).inUse → (s.config j).inUse →
    (s.config i).station = (s.config j).station → (s.config i).channel = (s.config j).channel → i = j
  roles   : ∀ i j : Fin 256, (s.config i).inUse → (s.config j).inUse →
    (s.config i).role ≠ 0 → (s.config i).role = (s.config j).role → i = j
  watch   : ∀ i : Fin 256, s.ptw.points[i].WatchSound
  once    : s.ptw.pendingOut.Nodup
  flags   : ∀ i : Fin 256, (s.runtime i).pendingFlag = true ↔ i ∈ s.ptw.pendingOut
  outputs : ∀ i : Fin 256, (s.runtime i).pendingFlag = true →
    (s.config i).inUse = true ∧ (s.config i).isInput = false

/-! ### Fog and heat -/

/-- The stage of the dehumidifier: neither the stage nor the demand passes the cap in force (R75, R76);
the effective stage is at most the stage, the heat that class 1 has pays for it (R78), and STARVED says
that it falls short (R79). -/
structure State.StageSound (s : State) : Prop where
  stage     : s.fcu.stage ≤ s.fcu.fields.stageCap
  demand    : s.fcu.demand ≤ s.fcu.fields.stageCap
  effective : s.fcu.effective ≤ s.fcu.stage
  paid      : s.fcu.effective * s.hau.qStage
    ≤ s.hau.result.classes[1].grant + s.hau.result.classes[1].topUp
  starved   : s.fcu.starved = true ↔ s.fcu.effective < s.fcu.stage

/-- An allocation result keeps its accounts (R96 to R100, R103). -/
structure AllocationResult.Sound (r : AllocationResult) : Prop where
  shared   : r.classes[0].grant + r.classes[1].grant + r.classes[2].grant + r.classes[3].grant
    + r.rejected = r.budget
  demanded : ∀ c : Fin 4, r.classes[c].grant + r.classes[c].topUp ≤ r.classes[c].demand
  service  : ∀ c : Fin 4, r.classes[c].inService = false →
    r.classes[c].grant = 0 ∧ r.classes[c].topUp = 0
  noTopUp  : r.classes[2].topUp = 0 ∧ r.classes[3].topUp = 0
  boiler   : r.boilerCommand = r.classes[0].topUp + r.classes[1].topUp
  capacity : r.boilerCommand ≤ r.boilerCap
  zones    : total (r.zones.map ZoneResult.grant) = r.classes[2].grant
    ∧ total (r.zones.map ZoneResult.demand) = r.classes[2].demand
  zone     : ∀ z : Fin 8, r.zones[z].grant ≤ r.zones[z].demand ∧ r.zones[z].output ≤ 1000
  spare    : r.rejected = 0 ∨ r.boilerCommand = 0

/-! ### Valves -/

/-- A valve channel: position and target lie within its travel (R112, R113), a channel at rest is at its
target with an empty slot, a home run seeks 0 (R117), a seek has its remaining steps before it (R114),
and a fault cause is held exactly in FAULT (R118, R122). -/
structure Valve.Sound (v : Valve) : Prop where
  position : v.position ≤ v.config.travel
  target   : v.target ≤ v.config.travel
  slot     : ∀ t, v.slot = .target t → t ≤ v.config.travel
  atRest   : v.busy = false → v.slot = .empty ∧ v.target = v.position
  settled  : v.state = .settling → v.target = v.position
  homing   : v.state.isHoming = true → v.target = 0
  seeking  : v.state = .seeking → v.position ≠ v.target
    ∧ v.remaining = (v.target - v.position) + (v.position - v.target)
    ∧ (v.toOpen = true ↔ v.position < v.target)
  cause    : v.cause = .none ↔ v.state ≠ .fault

/-- Every valve channel is sound. -/
def State.ValvesSound (s : State) : Prop := ∀ c : Fin 4, (s.valve c).Sound

/-! ### Cues -/

/-- A playback: only FADING and HELD have a current cue, FADING always has (R133 to R138); a fade
record is held in FADING alone; in IDLE every own level is 0 (R138); levels are 0 to 255. -/
structure Playback.Sound (p : Playback) : Prop where
  fading : p.state = .fading → p.current ≠ none
  none   : p.state = .idle ∨ p.state = .fault → p.current = none
  clear  : p.state ≠ .fading → p.fade = .cleared
  count  : p.fade.count < p.fade.length ∨ p.fade.count = 0 ∧ p.fade.length = 0
  idle   : p.state = .idle → ∀ ch : Fin 256, p.levels[ch] = 0
  levels : ∀ ch : Fin 256, p.levels[ch] ≤ 255
  ends   : ∀ (ch : Fin 256) (x : Nat × Nat), p.fade.channels[ch] = some x → x.1 ≤ 255 ∧ x.2 ≤ 255

/-- The cue engine: both playbacks are sound, levels are 0 to 255, and the cue memories have their
canonical form. -/
structure State.CuesSound (s : State) : Prop where
  showSound  : s.cue.playbackShow.Sound
  houseSound : s.cue.playbackHouse.Sound
  flat       : ∀ i : Fin 256, s.cue.cues[i].flat ≤ 255
  map        : ∀ ch : Fin 256, s.cue.levelMap[ch] ≤ 255
  spans      : Memory.wf 512 SpanEntry.zero s.cue.spans
  scenes     : Memory.wf 4096 0#8 s.cue.scenes

/-! ### Trend capture -/

/-- A capture channel: its descriptor passed the checks of R160 or is that of power-on; while it is ARMED
or RUNNING its pointer lies in its region (R164); RUNNING, samples remain (R164, R165). -/
structure CaptureChannel.Sound (c : CaptureChannel) : Prop where
  checked : c.descriptor = .zero ∨ c.descriptor.ok = true
  inside  : c.active = true →
    c.descriptor.base ≤ c.pointer ∧ c.pointer < c.descriptor.base + c.descriptor.length
  armed   : c.state = .armed → c.descriptor.ring = true
  running : c.state = .running → 1 ≤ c.remaining

/-- The capture unit: channels are sound, the regions of active channels share no place (R163), and trend
memory has its canonical form. -/
structure State.CapturesSound (s : State) : Prop where
  channels : ∀ i : Fin 8, s.tcu.channels[i].Sound
  disjoint : ∀ i j : Fin 8, s.tcu.channels[i].active = true → s.tcu.channels[j].active = true →
    i ≠ j → s.tcu.channels[i].descriptor.overlaps s.tcu.channels[j].descriptor = false
  memory   : Memory.wf 4096 Sample.zero s.tcu.memory

/-! ### Notices and management -/

/-- Notices: levels 0 to 7, START at 7 (R170), a threshold 1 to 7 (R174), nothing pending at a level of 0
(R170, R171). -/
structure State.NoticesSound (s : State) : Prop where
  levels    : ∀ i : Fin 18, s.ntu.levels[i] ≤ 7
  start     : s.ntu.levels[(0 : Fin 18)] = 7
  threshold : 1 ≤ s.ntu.threshold ∧ s.ntu.threshold ≤ 7
  silent    : ∀ i : Fin 18, s.ntu.levels[i] = 0 → s.ntu.records[i].count = 0

/-- Management: a request in hand and a REPLY in the slot exclude each other, requests wait only behind
one of the two (R176), a channel is in its fault-clear pulse exactly while the request in hand is for it
(R123), and RESTART's mark stands beside its REPLY alone (R184). -/
structure State.ManagementSound (s : State) : Prop where
  oneAtATime : s.mgr.inHand ≠ none → s.mgr.slot = none
  waiting    : s.mgr.queue ≠ [] → s.mgr.inHand ≠ none ∨ s.mgr.slot ≠ none
  pulse      : ∀ c : Fin 4, (s.valve c).clearing = true ↔ s.mgr.inHand.map InHand.channel = some c
  restarting : s.mgr.restarting = true → s.mgr.slot ≠ none
  sending    : ∀ x, s.supervisor.line.sending = some x → x.kind = .reply →
    s.mgr.slot = some x.telegram

/-- A held part sends and takes nothing: transmitters IDLE, receivers in HUNT, queues empty, ALM
deasserted (R182). -/
structure State.HeldIsSilent (s : State) : Prop where
  lines    : s.hold ≠ .working → ∀ p : Port, (s.line p).sending = none ∧ (s.line p).receiver = .hunt
  windows  : s.hold ≠ .working → ∀ g : Segment, (s.field g).window = none ∧ (s.field g).relayDown = []
  queues   : s.hold ≠ .working → s.traffic.inbound = [] ∧ s.traffic.relayUp = [] ∧ s.mgr.queue = []
  requests : s.hold ≠ .working → s.mgr.inHand = none ∧ s.mgr.slot = none
  alm      : s.hold ≠ .working → s.ntu.alm = false

/-! ### Settings -/

/-- The settings of a field port lie in their ranges (R10, R29). -/
structure FieldPort.InRange (f : FieldPort) : Prop where
  divisor    : f.line.divisor ≤ 4095
  newDivisor : ∀ n, f.newDivisor = some n → n ≤ 4095
  window     : 1 ≤ f.windowLength ∧ f.windowLength ≤ 50

/-- The settings that requests write lie in the ranges that their chapters give (R10, R29, R62, R64, R85,
R86, R111, R127, R129, R150, R156, R160, R181). A cue record and a capture descriptor passed the checks of
their write or are those of power-on, all zeros (R148, R169). Point records, poll entries and notice levels
stand in `PointsSound`, `PollListsSound` and `NoticesSound`. -/
structure State.SettingsInRange (s : State) : Prop where
  plant    : s.plant.InRange
  bowl     : s.bowl.InRange
  divisor  : s.supervisor.line.divisor ≤ 4095
  rates    : ∀ i : Fin 4, s.supervisor.rateList[i] ≤ 4095
  knots    : ∀ i : Fin 41, s.fcu.knots[i] ≤ 65535
  dwell    : 10 ≤ s.fcu.dwell ∧ s.fcu.dwell ≤ 600
  k        : 1000 ≤ s.hau.k ∧ s.hau.k ≤ 4500
  qStage   : 1 ≤ s.hau.qStage ∧ s.hau.qStage ≤ 2000
  boiler   : s.hau.boilerCap ≤ 20000
  caps     : ∀ c : Fin 4, s.hau.caps[c] ≤ 20000
  zones    : ∀ z : Fin 8, s.hau.zones[z].gain ≤ 1000 ∧ s.hau.zones[z].maxHeat ≤ 2000
  weights  : ∀ ch : Fin 256, s.hau.loads[ch].weight ≤ 255
  travel   : ∀ c : Fin 4, 16 ≤ (s.valve c).config.travel ∧ (s.valve c).config.travel ≤ 4000
  period   : ∀ c : Fin 4, 2 ≤ (s.valve c).config.period ∧ (s.valve c).config.period ≤ 255
  settle   : ∀ c : Fin 4, (s.valve c).config.settle ≤ 255
  seat     : ∀ c : Fin 4, (s.valve c).config.seat ≤ 255
  cues     : ∀ i : Fin 256, s.cue.cues[i] = .zero ∨ s.cue.cues[i].ok = true
  spans    : ∀ x ∈ s.cue.spans, x.2.offset ≤ 255 ∧ 1 ≤ x.2.width ∧ x.2.width ≤ 256
  scenes   : ∀ a : Nat, s.cue.scene a ≤ 255
  captures : ∀ i : Fin 8,
    s.tcu.channels[i].descriptor = .zero ∨ s.tcu.channels[i].descriptor.ok = true
  profiles : ∀ i : Fin 8, s.prf.profiles[i].valid = true → s.prf.profiles[i].ok = true
  active   : ∀ i : Fin 8, s.prf.active = some i → s.prf.profiles[i].valid = true
  limit    : s.prf.limit ≤ 2
  address  : 1 ≤ s.mgr.address ∧ s.mgr.address ≤ 126

end Sys2Proof.Machine
end

