-- ==== Sys2Proof/Certificates/Slice0/Obligations.lean ====
section
/-! DEFINITION. The statements for the provers. Each docstring names the rules of spec/ that a statement
formalises, or the log entry whose choice it states. In every statement about a command `u.arbitrate` is the
state `u` at the end of the step: `ArbitrationFrame` says what the end of a step can change, and
`FieldPortTakesInOrder` and `SupervisorLinkTakesInOrder` say what it does. -/

open Sys2Proof Sys2Proof.Machine

/-! ### The queue of commands, and the part left to itself -/

/-- A step carries out the command at the front of the queue, with the queue's rest. -/
def Obligations.StepRunsFront : Prop :=
  ∀ (c : Instr) (s : State) (rest : List Instr),
    s.pending = c :: rest → step s = exec c (s.setPending rest)

/-- On an empty queue one period of the 16 MHz reference passes while no timed event of the part is due; else
one of the due events is taken, in an order that is free (the model's choice: logs 4 and 5). A held part has
no due event (R182). Which events are due in a working part: each timer at the moment its chapter gives it,
the poll that a free port would send, and a waiting inbound telegram. That an event is due to be taken from
its moment on is the model's clock (logs 1, 4 and 10). -/
def Obligations.IdlePartRunsDueEvents : Prop :=
  ∀ s : State, s.pending = [] →
    (s.hold ≠ .working → s.dueEvents = [])
    ∧ (s.dueEvents = [] → step s = .next (s.setNow (s.now + 1)))
    ∧ (s.dueEvents ≠ [] → ∃ i ∈ s.dueEvents,
        step s = exec i s ∨ step s = exec i (s.setRaces (s.races + 1)))
    ∧ (∀ i : Instr, s.hold = .working → (i ∈ s.dueEvents ↔ match i with
      | .gapTimerExpiry p => let l := s.line p
        l.receiver ≠ .hunt ∧ l.lastEnd + 2 * (176 * (l.divisor + 1)) ≤ s.now
      | .transmissionEnd p => ∃ x : Sending, (s.line p).sending = some x ∧ x.endAt ≤ s.now
      | .portQuiet g => let f := s.field g
        f.line.sending = none ∧ f.quiet = false
          ∧ f.line.lastEnd + 2 * (176 * (f.line.divisor + 1)) ≤ s.now
      | .replyWindowExpiry g => ∃ w : Window, (s.field g).window = some w ∧ w.expiry ≤ s.now
      | .pollDue g i => let f := s.field g
        f.line.sending = none ∧ f.quiet = true ∧ f.window = none ∧ f.longestDue s.now = some i
      | .inboundTelegramTake => s.traffic.inbound ≠ []
      | .staleExpiry i => let c := s.config i; let r := s.runtime i
        c.inUse = true ∧ c.direction = 0 ∧ r.watch = .live
          ∧ ∃ t : Nat, r.lastArrival = some t ∧ millis (t + 1000 * c.staleAfter) ≤ s.now
      | .holdExpiry i => let c := s.config i; let r := s.runtime i
        c.inUse = true ∧ c.direction = 0 ∧ r.watch = .stale
          ∧ ∃ t : Nat, r.staleSince = some t ∧ millis (t + 1000 * c.holdTime) ≤ s.now
      | .refreshExpiry i => let c := s.config i; let r := s.runtime i
        c.inUse = true ∧ c.direction ≠ 0 ∧ r.overrideAt = none ∧ r.pendingFlag = false
          ∧ r.lastSent ≠ none
          ∧ ∃ t : Nat, r.lastSending = some t ∧ millis (t + 1000 * c.refresh) ≤ s.now
      | .overrideExpiry i => let c := s.config i
        c.inUse = true ∧ c.direction ≠ 0
          ∧ ∃ t : Nat, (s.runtime i).overrideAt = some t ∧ millis t ≤ s.now
      | .fogEvaluation => s.fcu.nextEval ≤ s.now
      | .heatEvaluation => s.hau.nextEval ≤ s.now
      | .cueFrame => s.cue.nextFrame ≤ s.now
      | .seekStepEnd c => (s.valve c).state = .seeking ∧ (s.valve c).stepEnd ≤ s.now
      | .searchStepEnd c =>
        ((s.valve c).state = .homing .search ∨ (s.valve c).state = .homing .searchEnding)
          ∧ (s.valve c).stepEnd ≤ s.now
      | .seatStepEnd c => (∃ left : Nat, (s.valve c).state = .homing (.seat left))
          ∧ (s.valve c).stepEnd ≤ s.now
      | .settleEnd c => (s.valve c).state = .settling ∧ (s.valve c).stepEnd ≤ s.now
      | .faultClearPulseEnd c => (s.valve c).clearing = true ∧ (s.valve c).pulseEnd ≤ s.now
      | .valveLinesPlaced => s.vdu.linesPlaced = false ∧ s.vdu.linesAt ≤ s.now
      | _ => False))

/-- Every command in every state answers a next state: the part never stops (log 25). -/
def Obligations.EveryCommandAnswersNext : Prop :=
  ∀ (c : Instr) (s : State), ∃ t : State, exec c s = .next t

/-- R5, R8, R178, R180: the body that a well-formed request command is sent as fits a telegram and is read
back as that command; and every body that fits is read as a well-formed request command that is sent as that
body: no bit of a REQUEST is dropped. -/
def Obligations.RequestsRoundTrip : Prop :=
  (∀ (i : Instr) (source : Byte) (body : List Byte), i.wf = true →
    encodeRequest i = some (source, body) → decodeRequest source body = i ∧ body.length ≤ 40)
  ∧ (∀ (source : Byte) (body : List Byte), body.length ≤ 40 →
    (decodeRequest source body).wf = true
    ∧ encodeRequest (decodeRequest source body) = some (source, body))

/-! ### Invariants that every step keeps -/

/-- R15, R20, R23, R26: every queue keeps to its capacity. R27: every poll entry is in range, and a station
appears at most once across both lists. Counters saturate at their maximum: 65535, 255 for the raisings of a
notice, 4 for the consecutive non-poll count, 3 for the failures of the rate search (00 Conventions, R16, R17,
R20, R34, R164, R171). -/
def Obligations.TrafficStaysSound : Prop :=
  (∀ s t : State, s.QueuesBounded → step s = .next t → t.QueuesBounded)
  ∧ (∀ s t : State, s.PollListsSound → step s = .next t → t.PollListsSound)
  ∧ (∀ s t : State, s.CountersSaturate → step s = .next t → t.CountersSaturate)

/-- R42, R43, R53: records in use are in range, keys and roles are unique, the pending output list holds
exactly the points whose flag is set, each once; the seen value follows the watch state (R51). -/
def Obligations.PointTableStaysSound : Prop :=
  ∀ s t : State, s.PointsSound → step s = .next t → t.PointsSound

/-- R76, R78, R79: the stage keeps to the cap in force, the effective stage to the stage and to the heat that
class 1 has, and STARVED says that it falls short. R96 to R100: the latest allocation result keeps its
accounts. -/
def Obligations.HeatStaysPaidFor : Prop :=
  (∀ s t : State, s.StageSound → step s = .next t → t.StageSound)
  ∧ (∀ s t : State, s.hau.result.Sound → step s = .next t → t.hau.result.Sound)

/-- R112, R114, R115, R117, R122: each valve channel keeps within its travel and its state's terms. -/
def Obligations.ValvesStaySound : Prop :=
  ∀ s t : State, s.ValvesSound → step s = .next t → t.ValvesSound

/-- R133 to R138: both playbacks keep the terms of their states, levels stay 0 to 255, and span list and scene
memory keep their canonical form. R160, R163: no two active capture channels share a place, the pointer of an
active one stays inside its region, and trend memory keeps its canonical form. -/
def Obligations.CuesAndCapturesStaySound : Prop :=
  (∀ s t : State, s.CuesSound → step s = .next t → t.CuesSound)
  ∧ (∀ s t : State, s.CapturesSound → step s = .next t → t.CapturesSound)

/-- R170, R171, R174: notice levels and threshold stay in range, START stays at 7, and every pending record
belongs to a source whose level is 1 to 7. R123, R176, R184: one request at a time, requests wait only behind
it, and the channel in its pulse is that of the request in hand. R182: a held part sends and takes nothing,
its queues are empty, and ALM is deasserted. -/
def Obligations.ManagementStaysSound : Prop :=
  (∀ s t : State, s.NoticesSound → step s = .next t → t.NoticesSound)
  ∧ (∀ s t : State, s.ManagementSound → step s = .next t → t.ManagementSound)
  ∧ (∀ s t : State, s.HeldIsSilent → step s = .next t → t.HeldIsSilent)

/-- R10, R29, R62, R64, R85, R86, R111, R127, R129, R150, R156, R160, R181: the settings that requests write
stay in the ranges that their chapters give: divisors and rate list, windows, saturation knots, dwell time,
heat plant, lighting loads, valve configurations, cue records, span entries, scene levels, capture
descriptors, profiles, the boiler limit and the address. Cue records and descriptors may also be those of
power-on (R148, R169). Poll entries, point records and notice levels are kept in range by `TrafficStaysSound`,
`PointTableStaysSound` and `ManagementStaysSound`. -/
def Obligations.SettingsStayInRange : Prop :=
  ∀ s t : State, s.SettingsInRange → step s = .next t → t.SettingsInRange

/-- The state after reset meets every invariant. -/
def Obligations.ResetMeetsTheInvariants : Prop :=
  State.reset.QueuesBounded ∧ State.reset.CountersSaturate ∧ State.reset.PollListsSound
  ∧ State.reset.PointsSound ∧ State.reset.StageSound ∧ State.reset.hau.result.Sound
  ∧ State.reset.ValvesSound ∧ State.reset.CuesSound ∧ State.reset.CapturesSound
  ∧ State.reset.NoticesSound ∧ State.reset.ManagementSound ∧ State.reset.HeldIsSilent
  ∧ State.reset.SettingsInRange

/-- R173, R182: after every command ALM is asserted exactly while the part works and some alarm condition
stands whose source level is at or above the threshold: a point in use in HIGH or LOW (source 1) or LOST
(source 3), a fog zone in FOG (source 7), a valve channel in FAULT (source 12). -/
def Obligations.AlarmFollowsTheConditions : Prop :=
  ∀ (c : Instr) (s t : State), exec c s = .next t →
    (t.ntu.alm = true ↔ t.hold = .working ∧
      ((∃ i : Fin 256, (t.config i).inUse = true ∧ (t.runtime i).limit ≠ .normal
          ∧ t.ntu.threshold ≤ t.ntu.levels[(1 : Fin 18)])
        ∨ (∃ i : Fin 256, (t.config i).inUse = true ∧ (t.runtime i).watch = .lost
          ∧ t.ntu.threshold ≤ t.ntu.levels[(3 : Fin 18)])
        ∨ (∃ z : Fin 4, t.fcu.zones[z].state = .fog
          ∧ t.ntu.threshold ≤ t.ntu.levels[(7 : Fin 18)])
        ∨ (∃ v : Fin 4, (t.valve v).state = .fault
          ∧ t.ntu.threshold ≤ t.ntu.levels[(12 : Fin 18)])))

/-! ### The end of a step -/

/-- What the end of a step leaves alone: the clock, the hold, fog, heat, valves, profiles, captures,
management and the inbound queue; of points all but pending output; of the cue engine all but the due set and
the last-sent copies; of notices all but the records and ALM; of a port that is not free, or a transmitter
that is not IDLE, everything. A held part only has its ALM judged (R33, R38, R182); in a working part each
free transmitter takes its next telegram, plant, bowl, supervisor link, and then ALM is judged (log 20). -/
def Obligations.ArbitrationFrame : Prop :=
  ∀ s : State, let t := s.arbitrate
    t.now = s.now ∧ t.hold = s.hold ∧ t.fcu = s.fcu ∧ t.hau = s.hau ∧ t.vdu = s.vdu ∧ t.prf = s.prf
    ∧ t.tcu = s.tcu ∧ t.mgr = s.mgr ∧ t.races = s.races ∧ t.pending = s.pending
    ∧ t.traffic.inbound = s.traffic.inbound
    ∧ (∀ i : Fin 256, t.config i = s.config i
        ∧ (t.runtime i).seen = (s.runtime i).seen ∧ (t.runtime i).watch = (s.runtime i).watch
        ∧ (t.runtime i).limit = (s.runtime i).limit ∧ (t.runtime i).raw = (s.runtime i).raw
        ∧ (t.runtime i).overrideAt = (s.runtime i).overrideAt
        ∧ (t.runtime i).autoValue = (s.runtime i).autoValue
        ∧ (t.runtime i).toSend = (s.runtime i).toSend)
    ∧ t.cue = { s.cue with due := t.cue.due, lastSent := t.cue.lastSent }
    ∧ t.ntu = { s.ntu with records := t.ntu.records, alm := t.ntu.alm }
    ∧ (∀ g : Segment, (s.field g).free = false → t.field g = s.field g)
    ∧ (s.bowl.free = false → t.cue = s.cue ∧ t.traffic.lastBlock = s.traffic.lastBlock)
    ∧ (s.plant.free = false → s.bowl.free = false → t.ptw = s.ptw)
    ∧ (s.supervisor.line.sending ≠ none → t.supervisor = s.supervisor
        ∧ t.traffic.relayUp = s.traffic.relayUp ∧ t.ntu.records = s.ntu.records)
    ∧ (s.hold ≠ .working → t = s.setNtu { s.ntu with alm := false })
    ∧ (s.hold = .working → t = (((s.schedule .plant).schedule .bowl).sendNext).judgeAlarm)
    ∧ (∀ u : State, u.judgeAlarm = u.setNtu { u.ntu with alm := u.judgeAlarm.ntu.alm })

/-- The choices behind the order: the poll of a list that is longest due is a due entry with the earliest due
time, in the lowest slot among equals, where an entry never polled is due at once, before any other, and else
one poll interval after its last poll, eight while it is SILENT (R28); the notice offered is pending, with the
highest level, and the lowest number among equals (R172); the LEVELS block is the first due one in round-robin
order after the last sent (R36). Where something can be chosen something is. -/
def Obligations.ChoicesAreTheFirstInOrder : Prop :=
  (∀ (f : FieldPort) (now : Nat),
      let dueAt := fun (e : PollEntry) => e.lastPoll.map (fun t =>
        t + millis (100 * e.interval) * (if e.state = .silent then 8 else 1))
      let due := fun (e : PollEntry) => e.station ≠ 0 ∧ ∀ t, dueAt e = some t → t ≤ now
      let before := fun (d e : PollEntry) => match dueAt d, dueAt e with
        | none, some _ => True
        | some a, some b => a < b
        | _, none => False
      (∀ i : Fin 32, f.longestDue now = some i →
        due f.polls[i]
        ∧ ∀ j : Fin 32, due f.polls[j] →
            ¬before f.polls[j] f.polls[i] ∧ (j < i → before f.polls[i] f.polls[j]))
      ∧ (f.longestDue now = none → ∀ j : Fin 32, ¬due f.polls[j]))
  ∧ (∀ (n : Ntu) (x : Source), n.offered = some x →
      0 < n.records[x.number].count
      ∧ ∀ y : Source, 0 < n.records[y.number].count →
          n.levels[y.number] < n.levels[x.number]
          ∨ n.levels[y.number] = n.levels[x.number] ∧ x.number ≤ y.number)
  ∧ (∀ (n : Ntu), n.offered = none → ∀ i : Fin 18, n.records[i].count = 0)
  ∧ (∀ (s : State) (b : Fin 16), s.nextBlock = some b →
      ∃ k : Fin 16, b = s.traffic.lastBlock + 1 + k ∧ s.cue.due[b] = true
        ∧ ∀ j : Fin 16, j < k → s.cue.due[s.traffic.lastBlock + 1 + j] = false)
  ∧ (∀ s : State, s.nextBlock = none → ∀ b : Fin 16, s.cue.due[b] = false)

/-- R11, R33 to R37: what the scheduler of a free port hands to its transmitter. A due poll goes first when
the consecutive non-poll count stands at 4; else the oldest relayed telegram, else a COMMAND of up to eight
pending points of one station of this port, in list order, from the oldest such point on, else on the bowl
port the next due LEVELS block, else the longest-due POLL; with nothing waiting nothing changes. A port is
free with its transmitter IDLE, quiet and without a window. R35, R53: a point that goes into a COMMAND leaves
the pending output list, and its value to send and the moment, in whole milliseconds (R40, log 36), become its
last sent ones. -/
def Obligations.FieldPortTakesInOrder : Prop :=
  ∀ (s : State) (g : Segment), let f := s.field g; let u := s.schedule g
    let sends := fun (t : Telegram) (k : SendKind) => { f with
      quiet := false, line := { f.line with receiver := .hunt, sending := some ⟨t, k, t.chars, s.now,
        f.line.divisor, s.now + (6 + t.body.length) * (176 * (f.line.divisor + 1))⟩ } }
    (f.free = true ↔ f.line.sending = none ∧ f.quiet = true ∧ f.window = none)
    ∧ (f.free = false → u = s)
    ∧ (f.free = true → ∀ i : Fin 32, f.longestDue s.now = some i →
        (4 ≤ f.nonPoll ∨ f.relayDown = [] ∧ s.oldestPending g = none
            ∧ (g = .plant ∨ s.nextBlock = none)) →
        u = s.setField g { sends ⟨byteOf f.polls[i].station, s.ownAddress, 0x01#8, []⟩ .poll with
          polls := f.polls.set i { f.polls[i] with lastPoll := some s.now }, nonPoll := 0 })
    ∧ (f.free = true → (f.nonPoll < 4 ∨ f.longestDue s.now = none) →
        (∀ (t : Telegram) (rest : List Telegram), f.relayDown = t :: rest →
          u = s.setField g { sends t .relay with relayDown := rest })
        ∧ (f.relayDown = [] → ∀ i : Fin 256, s.oldestPending g = some i →
          ∃ l : List (Fin 256),
            l = (s.ptw.pendingOut.filter
                  (fun j => (s.config j).station == (s.config i).station)).take 8
            ∧ u = (l.foldl State.takePending s).setField g
                (sends ⟨byteOf (s.config i).station, s.ownAddress, 0x03#8,
                  byteOf l.length :: l.flatMap (fun j => byteOf (s.config j).channel
                    :: bytesSigned ((s.runtime j).toSend.getD 0))⟩ .command)
            ∧ u.ptw = (l.foldl State.takePending s).ptw ∧ u.cue = s.cue
            ∧ u.traffic = s.traffic)
        ∧ (f.relayDown = [] → s.oldestPending g = none → g = .bowl →
          ∀ b : Fin 16, s.nextBlock = some b →
            u = ((s.setCue u.cue).setTraffic { s.traffic with lastBlock := b }).setField g
              (sends ⟨127#8, s.ownAddress, 0x04#8, byteOf b.val
                :: (List.finRange 16).map (fun j => byteOf s.cue.levelMap[blockChannel b j])⟩ .levels)
            ∧ u.cue = { s.cue with due := s.cue.due.set b false, lastSent := u.cue.lastSent }
            ∧ (∀ ch : Fin 256, u.cue.lastSent[ch]
                = if ch.val / 16 = b.val then s.cue.levelMap[ch] else s.cue.lastSent[ch]))
        ∧ (f.relayDown = [] → s.oldestPending g = none → (g = .plant ∨ s.nextBlock = none) →
          f.longestDue s.now = none → u = s))
    ∧ ((u.field g).line.sending ≠ f.line.sending →
        (u.field g).quiet = false ∧ (u.field g).line.receiver = .hunt)
    ∧ (∀ i : Fin 256, s.oldestPending g = some i → f.slotOf (s.config i).station ≠ none
        ∧ ∃ before after : List (Fin 256), s.ptw.pendingOut = before ++ i :: after
          ∧ ∀ j ∈ before, f.slotOf (s.config j).station = none)
    ∧ (s.oldestPending g = none →
        ∀ j ∈ s.ptw.pendingOut, f.slotOf (s.config j).station = none)
    ∧ (∀ station : Nat, f.slotOf station = none
        ↔ station = 0 ∨ ∀ k : Fin 32, f.polls[k].station ≠ station)
    ∧ (∀ i : Fin 256, let v := s.takePending i
        v = s.setPtw v.ptw
        ∧ v.runtime i = { s.runtime i with pendingFlag := false, lastSent := (s.runtime i).toSend,
                                           lastSending := some (s.now / 16000) }
        ∧ (∀ j : Fin 256, v.config j = s.config j ∧ (j ≠ i → v.runtime j = s.runtime j))
        ∧ v.ptw.pendingOut = s.ptw.pendingOut.filter (fun j => j != i))

/-- R38, R172: what the supervisor link sender hands to an IDLE transmitter: the REPLY in the slot, else the
notice offered, whose record is cleared, else the oldest relay-up telegram; with nothing waiting nothing
changes. -/
def Obligations.SupervisorLinkTakesInOrder : Prop :=
  ∀ s : State, let u := s.sendNext; let p := s.supervisor
    let sends := fun (v : State) (t : Telegram) (k : SendKind) =>
      v.setSupervisor { p with line := { p.line with
        sending := some ⟨t, k, t.chars, s.now, p.line.divisor,
          s.now + (6 + t.body.length) * (176 * (p.line.divisor + 1))⟩ } }
    (p.line.sending ≠ none → u = s)
    ∧ (p.line.sending = none →
      (∀ t : Telegram, s.mgr.slot = some t → u = sends s t .reply)
      ∧ (s.mgr.slot = none → ∀ x : Source, s.ntu.offered = some x →
          let r := s.ntu.records[x.number]
          u = sends
            (s.setNtu { s.ntu with records := s.ntu.records.set x.number ⟨0, 0, 0⟩ })
            ⟨127#8, s.ownAddress, 0x12#8, byteOf x.number.val :: byteOf s.ntu.levels[x.number]
              :: byteOf r.count :: byteOf r.subject :: bytesSigned r.detail⟩ .notice)
      ∧ (s.mgr.slot = none → s.ntu.offered = none → ∀ (t : Telegram) (rest : List Telegram),
          s.traffic.relayUp = t :: rest →
          u = sends (s.setTraffic { s.traffic with relayUp := rest }) t .relayUp)
      ∧ (s.mgr.slot = none → s.ntu.offered = none → s.traffic.relayUp = [] → u = s))

/-! ### Characters and telegrams on the line -/

/-- R1: the line bits of a character, and the level of a transmit line, at rest 1, during each bit time of a
transmission. R2: a character sent is taken as it was sent, after any idle time and after a false start, from
which the search goes on at its eighth sample; the stop bit's ninth sample decides it; each bit time is the
majority of its samples 7, 8 and 9. R4: the bytes of a telegram that fits are a whole telegram whose check
agrees, no shorter run of them is whole, and what is read from them is the telegram. R1: its characters carry
its bytes in order, the mark bit on the first alone; R4's test value. The list of samples, from where the
receiver looks on, is the form that the model gives a line (log 9). -/
def Obligations.TelegramsArriveAsSent : Prop :=
  (∀ (b : Byte) (mark : Bool),
    let bits := lineBits b mark
    let seen := (List.range 11).flatMap (fun j => List.replicate 16 (bits.getLsbD j))
    (bits.getLsbD 0 = false ∧ (∀ j : Fin 8, bits.getLsbD (j.val + 1) = b.getLsbD j.val)
      ∧ bits.getLsbD 9 = mark ∧ bits.getLsbD 10 = true)
    ∧ takeCharacter (samplesOf bits) = some (8, ⟨b, mark, true⟩)
    ∧ (∀ n m : Nat, 1 ≤ n → takeCharacter (List.replicate n true ++ seen.take m)
        = if 169 ≤ m then some (n, ⟨b, mark, true⟩) else none)
    ∧ (∀ n k m : Nat, 1 ≤ n → 1 ≤ k → k ≤ 7 → 8 ≤ k + m →
        takeCharacter (List.replicate n true ++ (List.replicate k false
          ++ (List.replicate m true ++ seen))) = some (n + k + m, ⟨b, mark, true⟩)))
  ∧ (∀ x : List Bool, 169 ≤ x.length → x[0]? = some false → x[7]? = some false →
    let taken := fun (bit : Nat) => decide (2 ≤ ((x.drop (16 * bit + 6)).take 3).count true)
    ∃ c : Character, takeCharacter (true :: x) = some (1, c)
      ∧ (∀ j : Fin 8, c.data.getLsbD j.val = taken (j.val + 1)) ∧ c.mark = taken 9
      ∧ c.stop = taken 10)
  ∧ (∀ l : Line, (l.sending = none → ∀ now : Nat, l.txLevel now = true)
    ∧ (∀ x : Sending, l.sending = some x →
      (∀ (k j r : Nat) (c : BitVec 11), x.chars[k]? = some c → j < 11 → r < 16 * (x.divisor + 1) →
        l.txLevel (x.beginAt + (11 * k + j) * (16 * (x.divisor + 1)) + r) = c.getLsbD j)
      ∧ (∀ now : Nat, x.beginAt + x.chars.length * (176 * (x.divisor + 1)) ≤ now →
        l.txLevel now = true)))
  ∧ (∀ t : Telegram, t.body.length ≤ 40 →
      t.bytes.length = 6 + t.body.length ∧ t.chars.length = 6 + t.body.length
      ∧ wholeTelegram t.bytes = true ∧ checkAgrees t.bytes = true ∧ telegramOf t.bytes = t
      ∧ (∀ n : Nat, n < 6 + t.body.length → wholeTelegram (t.bytes.take n) = false)
      ∧ (∀ k : Nat, (t.chars[k]?).map (fun x => takeCharacter (samplesOf x))
          = (t.bytes[k]?).map (fun b => some (8, ⟨b, decide (k = 0), true⟩))))
  ∧ crc16 [0x31#8, 0x32#8, 0x33#8, 0x34#8, 0x35#8, 0x36#8, 0x37#8, 0x38#8, 0x39#8] = 0x29B1#16

/-- R2, R12, R13, R14: what a good character does while it completes no telegram. Its stop bit ends 176 sample
times after its start bit begins, never before now (log 9); from the stop bit's ninth sample on the receiver
looks for the next start bit. In HUNT a marked character begins a telegram and an unmarked one is ignored; in
ASSEMBLE an unmarked one is stored. When more than two character times passed before the start bit, the gap
timer has expired first. A false start, and any character while the receiver is off (R12) or the part held
(R182), leaves all as it is. -/
def Obligations.CharactersBuildTelegrams : Prop :=
  ∀ (s : State) (p : Port) (x : List Bool),
    let l := s.line p
    let charTime := 176 * (l.divisor + 1)
    ((s.hold ≠ .working ∨ s.receiverOff p = true ∨ takeCharacter x = none) →
      exec (.characterReceived p x) s = .next s.arbitrate)
    ∧ (s.hold = .working → s.receiverOff p = false → ∀ (skipped : Nat) (c : Character),
        takeCharacter x = some (skipped, c) →
      let now := max s.now (l.lookFrom + (skipped + 176) * (l.divisor + 1))
      let u := (s.setNow now).markEnd p
      (∀ got : List Byte, l.receiver = .assemble got → l.lastEnd + 3 * charTime < now →
        exec (.characterReceived p x) s = exec (.characterReceived p x)
          (((s.setNow now).setReceiver p .hunt).portEvent p .gap))
      ∧ (c.stop = true →
        (l.receiver = .hunt →
          exec (.characterReceived p x) s
            = .next (if c.mark then u.setReceiver p (.assemble [c.data]) else u).arbitrate)
        ∧ (∀ got : List Byte, l.receiver = .assemble got → now ≤ l.lastEnd + 3 * charTime →
            c.mark = false →
            (got.length = 3 → c.data.toNat ≤ 40) → wholeTelegram (got ++ [c.data]) = false →
          exec (.characterReceived p x) s
            = .next (u.setReceiver p (.assemble (got ++ [c.data]))).arbitrate))
      ∧ (∀ g : Segment, p = g.port →
          u = (s.setNow now).setField g { s.field g with
                line := { (s.field g).line with
                  lastEnd := now, lookFrom := now - 8 * (l.divisor + 1) },
                quiet := false })
      ∧ (p = .supervisor →
          u = (s.setNow now).setLine .supervisor { s.supervisor.line with
                lastEnd := now, lookFrom := now - 8 * (l.divisor + 1) }))

/-- R16: an event at a port adds 1 to its count, saturating at 65535, an overrun also sets the overrun flag,
and PORT_ERROR is raised with the port and the kind of event. R17: what a failure is to the rate search:
nothing while search is off, a rate step in place of a count of 4. R171: what a raising does. -/
def Obligations.EventsAreCountedAndRaised : Prop :=
  (∀ (s : State) (p : Port) (e : PortEvent), s.portEvent p e
      = (s.setLine p { s.line p with counts := (s.line p).counts.add e }).raise .portError
          (match p with | .plant => 0 | .bowl => 1 | .supervisor => 2)
          (match e with
            | .framing => 1 | .truncated => 2 | .length => 3 | .gap => 4 | .check => 5
            | .overrun => 6 | .requestOverrun => 7 | .rateStep => 8))
  ∧ (∀ c : Counts,
      c.add .framing = { c with framing := min 65535 (c.framing + 1) }
      ∧ c.add .truncated = { c with truncated := min 65535 (c.truncated + 1) }
      ∧ c.add .length = { c with length := min 65535 (c.length + 1) }
      ∧ c.add .gap = { c with gap := min 65535 (c.gap + 1) }
      ∧ c.add .check = { c with check := min 65535 (c.check + 1) }
      ∧ c.add .overrun
          = { c with overrun := min 65535 (c.overrun + 1), overrunFlag := true }
      ∧ c.add .requestOverrun = { c with requestOverrun := min 65535 (c.requestOverrun + 1) }
      ∧ c.add .rateStep = c)
  ∧ (∀ s : State, let p := s.supervisor
      (p.search = false → s.searchFailure = s)
      ∧ (p.search = true → p.fails < 3 →
          s.searchFailure = s.setSupervisor { p with fails := p.fails + 1 })
      ∧ (p.search = true → 3 ≤ p.fails →
          s.searchFailure = (s.setSupervisor { p with
            index := p.index + 1, fails := 0,
            line := { p.line with divisor := p.rateList[p.index + 1], receiver := .hunt }
            }).portEvent .supervisor .rateStep))
  ∧ (∀ (s : State) (x : Source) (subject : Nat) (detail : Int), let n := s.ntu
      (n.levels[x.number] = 0 → s.raise x subject detail = s)
      ∧ (n.levels[x.number] ≠ 0 → s.raise x subject detail = s.setNtu { n with
          records := n.records.set x.number
            ⟨min 255 (n.records[x.number].count + 1), subject, detail⟩ }))

/-- R13, R14, R17: what a character does that ends a telegram badly: a framing error in either receiver state,
a marked character inside a telegram, a length above 40, and a whole telegram whose check differs. A framing
error and a check mismatch at the supervisor link are failures for the rate search, whose rate step raises its
PORT_ERROR after that of the failure (log 38). No gap timer has expired before the character, whose moment is
log 9's. -/
def Obligations.LineErrorsAreCounted : Prop :=
  ∀ (s : State) (p : Port) (x : List Bool) (skipped : Nat) (c : Character),
    s.hold = .working → s.receiverOff p = false → takeCharacter x = some (skipped, c) →
    let l := s.line p
    let now := max s.now (l.lookFrom + (skipped + 176) * (l.divisor + 1))
    (l.receiver = .hunt ∨ now ≤ l.lastEnd + 3 * (176 * (l.divisor + 1))) →
    let u := (s.setNow now).markEnd p
    let fails := fun (v : State) => if p = .supervisor then v.searchFailure else v
    (c.stop = false →
      exec (.characterReceived p x) s
        = .next (fails ((u.setReceiver p .hunt).portEvent p .framing)).arbitrate)
    ∧ (∀ got : List Byte, c.stop = true → (s.line p).receiver = .assemble got →
        (c.mark = true →
          exec (.characterReceived p x) s
            = .next ((u.setReceiver p (.assemble [c.data])).portEvent p .truncated).arbitrate)
        ∧ (c.mark = false → got.length = 3 → 40 < c.data.toNat →
          exec (.characterReceived p x) s
            = .next ((u.setReceiver p .hunt).portEvent p .length).arbitrate)
        ∧ (c.mark = false → (got.length = 3 → c.data.toNat ≤ 40) →
            wholeTelegram (got ++ [c.data]) = true → checkAgrees (got ++ [c.data]) = false →
          exec (.characterReceived p x) s
            = .next (fails ((u.setReceiver p .hunt).portEvent p .check)).arbitrate))

/-- R14, R15, R27, R30, R32: the character that completes a good telegram at a field port. An answer from the
awaited station closes the open window and makes the station's entry ANSWERING with miss count 0; outside a
window only a SILENT entry becomes so. The telegram goes into the inbound queue with its note, or is counted
as an overrun when 16 wait. When the entry of the awaited station was taken out while the window was open, the
answer closes the window and changes no entry (R27). The character's moment is log 9's. -/
def Obligations.FieldTelegramCompletes : Prop :=
  ∀ (s : State) (g : Segment) (x : List Bool) (skipped : Nat) (c : Character) (got : List Byte),
    s.hold = .working → (s.field g).line.sending = none → takeCharacter x = some (skipped, c) →
    c.stop = true → c.mark = false → (s.line g.port).receiver = .assemble got →
    (got.length = 3 → c.data.toNat ≤ 40) →
    wholeTelegram (got ++ [c.data]) = true → checkAgrees (got ++ [c.data]) = true →
    let f := s.field g
    let t := telegramOf (got ++ [c.data])
    let now := max s.now (f.line.lookFrom + (skipped + 176) * (f.line.divisor + 1))
    now ≤ f.line.lastEnd + 3 * (176 * (f.line.divisor + 1)) →
    let f1 := { f with
      line := { f.line with
        lastEnd := now, lookFrom := now - 8 * (f.line.divisor + 1), receiver := .hunt },
      quiet := false }
    let queued := fun (v : State) (note : ReplyNote) =>
      if v.traffic.inbound.length < 16 then
        v.setTraffic { v.traffic with inbound := v.traffic.inbound ++ [⟨t, g.port, note⟩] }
      else v.portEvent g.port .overrun
    let entry := fun (h : FieldPort) (change : PollEntry → PollEntry) =>
      match h.slotOf t.src.toNat with
      | some i => { h with polls := h.polls.set i (change h.polls[i]) }
      | none => h
    (∀ w : Window, f.window = some w → w.awaited = some t.src →
      exec (.characterReceived g.port x) s
        = .next (queued ((s.setNow now).setField g
              (if w.entryGone = true then { f1 with window := none }
                else entry { f1 with window := none }
                  (fun e => { e with state := .answering, misses := 0 })))
            (if w.byPoll then .inPollWindow else .inRelayWindow)).arbitrate)
    ∧ ((∀ w : Window, f.window = some w → w.awaited ≠ some t.src) →
      exec (.characterReceived g.port x) s
        = .next (queued ((s.setNow now).setField g
              (entry f1 (fun e =>
                if e.state = .silent then { e with state := .answering, misses := 0 } else e)))
            .notInWindow).arbitrate)

/-- R14, R15: the character that completes a good telegram at the supervisor link. The failures of the rate
search become 0. A REQUEST to the part's own station does what its request command does; every other telegram
goes into the inbound queue, or is counted as an overrun when 16 wait. -/
def Obligations.SupervisorTelegramCompletes : Prop :=
  ∀ (s : State) (x : List Bool) (skipped : Nat) (c : Character) (got : List Byte),
    s.hold = .working → takeCharacter x = some (skipped, c) → c.stop = true → c.mark = false →
    s.supervisor.line.receiver = .assemble got →
    (got.length = 3 → c.data.toNat ≤ 40) →
    wholeTelegram (got ++ [c.data]) = true → checkAgrees (got ++ [c.data]) = true →
    let p := s.supervisor
    let t := telegramOf (got ++ [c.data])
    let now := max s.now (p.line.lookFrom + (skipped + 176) * (p.line.divisor + 1))
    now ≤ p.line.lastEnd + 3 * (176 * (p.line.divisor + 1)) →
    let u := (s.setNow now).setSupervisor { p with
      line := { p.line with
        lastEnd := now, lookFrom := now - 8 * (p.line.divisor + 1), receiver := .hunt },
      fails := 0 }
    (t.kind = 0x10#8 → t.dst = s.ownAddress →
      exec (.characterReceived .supervisor x) s = exec (decodeRequest t.src t.body) u)
    ∧ (¬(t.kind = 0x10#8 ∧ t.dst = s.ownAddress) →
      exec (.characterReceived .supervisor x) s
        = .next (if u.traffic.inbound.length < 16 then
            u.setTraffic { u.traffic with
              inbound := u.traffic.inbound ++ [⟨t, .supervisor, .notInWindow⟩] }
          else u.portEvent .supervisor .overrun).arbitrate)

/-- R12, R14, R28: the timers of the ports. The gap timer of an assembling receiver abandons the telegram two
character times after the last character; a field port that sends nothing becomes quiet two character times
after it; a polled entry comes due one interval after its last poll, eight while it is SILENT. Where a timer
does not run, nothing happens (log 3). R10: a character time is 176 sample times of n + 1 periods of the 16
MHz reference; a millisecond is 16000 of them, a second 16000000 (log 1). -/
def Obligations.PortTimersExpire : Prop :=
  (∀ n : Nat, millis n = 16000 * n ∧ seconds n = 16000000 * n)
  ∧ ∀ (s : State), s.hold = .working →
    (∀ p : Port, let l := s.line p
      (∀ got : List Byte, l.receiver = .assemble got →
        exec (.gapTimerExpiry p) s
          = .next (((s.setNow (max s.now (l.lastEnd + 2 * (176 * (l.divisor + 1))))).setReceiver p
              .hunt).portEvent p .gap).arbitrate)
      ∧ (l.receiver = .hunt → exec (.gapTimerExpiry p) s = .next s.arbitrate))
    ∧ (∀ g : Segment, let f := s.field g
      (f.line.sending = none → f.quiet = false →
        exec (.portQuiet g) s
          = .next ((s.setNow (max s.now (f.line.lastEnd + 2 * (176 * (f.line.divisor + 1))))).setField g
              { f with quiet := true }).arbitrate)
      ∧ (f.line.sending ≠ none ∨ f.quiet = true → exec (.portQuiet g) s = .next s.arbitrate))
    ∧ (∀ (g : Segment) (i : Fin 32), let e := (s.field g).polls[i]
      (∀ t : Nat, e.station ≠ 0 → e.lastPoll = some t →
        exec (.pollDue g i) s
          = .next (s.setNow (max s.now
              (t + millis (100 * e.interval) * (if e.state = .silent then 8 else 1)))).arbitrate)
      ∧ (e.station = 0 ∨ e.lastPoll = none → exec (.pollDue g i) s = .next s.arbitrate))

/-- R11, R12, R18, R29, R34: the end of a transmission of a field port. The transmitter is IDLE, the quiet
time begins, the non-poll count rises to 4 at most unless a POLL was sent, and a POLL or a relayed telegram
opens a reply window of the port's length, for its destination or, broadcast, for no station. A divisor that
waited applies now and puts the receiver in HUNT. -/
def Obligations.FieldTransmissionEnds : Prop :=
  ∀ (s : State) (g : Segment), s.hold = .working →
    let f := s.field g
    (f.line.sending = none → exec (.transmissionEnd g.port) s = .next s.arbitrate)
    ∧ (∀ x : Sending, f.line.sending = some x →
      let now := max s.now x.endAt
      let opened := fun (byPoll : Bool) => some (Window.mk
        (if x.telegram.dst = 127#8 then none else some x.telegram.dst) byPoll
        false (now + millis f.windowLength))
      exec (.transmissionEnd g.port) s = .next ((s.setNow now).setField g { f with
        line := { f.line with
          sending := none, lastEnd := now, lookFrom := now,
          divisor := (match f.newDivisor with | some n => n | none => f.line.divisor),
          receiver := (match f.newDivisor with | some _ => .hunt | none => f.line.receiver) },
        newDivisor := none, quiet := false,
        nonPoll := if x.kind = .poll then f.nonPoll else min 4 (f.nonPoll + 1),
        window := (match x.kind with
          | .poll => opened true
          | .relay => opened false
          | _ => f.window) }).arbitrate)

/-- R18, R38, R172, R176, R184: the end of a transmission of the supervisor link. After a notice or a relayed
telegram only the transmitter becomes IDLE. After a REPLY the slot is empty, a SET_RATE of the current entry
applies, and the next request is taken, before or after the sender's next choice (log 5). After RESTART's
REPLY the supervisor reset is taken. Without a transmission nothing happens (log 3). -/
def Obligations.SupervisorTransmissionEnds : Prop :=
  ∀ s : State, s.hold = .working →
    let p := s.supervisor
    (p.line.sending = none → exec (.transmissionEnd .supervisor) s = .next s.arbitrate)
    ∧ (∀ x : Sending, p.line.sending = some x →
      let u := (s.setNow (max s.now x.endAt)).setSupervisor
        { p with line := { p.line with sending := none } }
      let v := (s.setNow (max s.now x.endAt)).setSupervisor
        (if p.rateAtReply = true then
          { p with
            rateAtReply := false,
            line := { p.line with
              sending := none, divisor := p.rateList[p.index], receiver := .hunt,
              lookFrom := max s.now x.endAt } }
        else { p with line := { p.line with sending := none } })
      let w := v.setMgr { s.mgr with slot := none }
      (x.kind ≠ .reply → exec (.transmissionEnd .supervisor) s = .next u.arbitrate)
      ∧ (x.kind = .reply → s.mgr.restarting = true →
        exec (.transmissionEnd .supervisor) s = .next v.supervisorReset.arbitrate)
      ∧ (x.kind = .reply → s.mgr.restarting = false → s.mgr.queue = [] →
        exec (.transmissionEnd .supervisor) s = .next w.arbitrate)
      ∧ (x.kind = .reply → s.mgr.restarting = false → s.mgr.queue ≠ [] →
        let w := w.setRaces (s.races + 1)
        exec (.transmissionEnd .supervisor) s = .next w.takeRequest.arbitrate
        ∨ exec (.transmissionEnd .supervisor) s = .next w.sendNext.takeRequest.arbitrate))

/-- R27, R31: an open reply window reaches its expiry and closes. When a POLL opened it and the awaited
station still holds an entry of this port's list, the entry counts a miss: UNPOLLED becomes SILENT, ANSWERING
becomes SILENT at 3 misses, and STATION_SILENT is raised when the entry becomes SILENT by it. When the entry
was taken out while the window was open, the expiry changes no entry, also where the station is placed again
(R27). -/
def Obligations.WindowExpiryCountsMiss : Prop :=
  ∀ (s : State) (g : Segment), s.hold = .working →
    let f := s.field g
    (f.window = none → exec (.replyWindowExpiry g) s = .next s.arbitrate)
    ∧ (∀ w : Window, f.window = some w →
      let u := (s.setNow (max s.now w.expiry)).setField g { f with window := none }
      (w.byPoll = false ∨ w.awaited = none ∨ w.entryGone = true →
        exec (.replyWindowExpiry g) s = .next u.arbitrate)
      ∧ (∀ b : Byte, w.byPoll = true → w.awaited = some b → f.slotOf b.toNat = none →
        exec (.replyWindowExpiry g) s = .next u.arbitrate)
      ∧ (∀ (b : Byte) (i : Fin 32), w.byPoll = true → w.awaited = some b → w.entryGone = false →
          f.slotOf b.toNat = some i →
        let e := f.polls[i]
        let missed := fun (state : StationState) => (u.setField g { f with
          window := none,
          polls := f.polls.set i { e with misses := min 65535 (e.misses + 1), state := state } })
        let silent := fun (v : State) =>
          v.raise .stationSilent b.toNat (match g with | .plant => 0 | .bowl => 1)
        (e.state = .unpolled →
          exec (.replyWindowExpiry g) s = .next (silent (missed .silent)).arbitrate)
        ∧ (e.state = .answering → e.misses < 2 →
          exec (.replyWindowExpiry g) s = .next (missed .answering).arbitrate)
        ∧ (e.state = .answering → 2 ≤ e.misses →
          exec (.replyWindowExpiry g) s = .next (silent (missed .silent)).arbitrate)
        ∧ (e.state = .silent →
          exec (.replyWindowExpiry g) s = .next (missed .silent).arbitrate)))
/-! ### Segment traffic and points -/

/-- R20, R21, R22, R26: the telegram processor takes the oldest inbound telegram of a field port. A READING of
good form hands its entries to the points, and is relayed up when it answers a relayed telegram, when an entry
matched a point whose forward flag is set, or when one matched none and the port forwards such; any other
telegram is relayed up as it is. A full relay-up queue drops the telegram, charged to its port. With no
telegram waiting nothing happens (log 3). R6: the entries of a READING body, four bytes each: channel, value
high byte first, quality; an empty body is no reading of good form. -/
def Obligations.FieldTelegramsAreTaken : Prop :=
  ∀ s : State, s.hold = .working →
    (s.traffic.inbound = [] → exec .inboundTelegramTake s = .next s.arbitrate)
    ∧ (∀ (g : Segment) (t : Telegram) (note : ReplyNote) (rest : List Inbound),
        s.traffic.inbound = ⟨t, g.port, note⟩ :: rest →
        let u := s.setTraffic { s.traffic with inbound := rest }
        let up := fun (v : State) =>
          if v.traffic.relayUp.length < 16 then
            v.setTraffic { v.traffic with relayUp := v.traffic.relayUp ++ [t] }
          else v.setLine g.port { v.line g.port with counts := { (v.line g.port).counts with
            relayDrop := min 65535 ((v.line g.port).counts.relayDrop + 1) } }
        (t.reading = none → exec .inboundTelegramTake s = .next (up u).arbitrate)
        ∧ (∀ entries : List (Nat × Int × Byte), t.reading = some entries →
            let r := u.readingEntries t.src.toNat entries
            (note = .inRelayWindow ∨ r.1 = true
                ∨ r.2.1 = true ∧ (r.2.2.field g).forwardUnmatched = true →
              exec .inboundTelegramTake s = .next (up r.2.2).arbitrate)
            ∧ (note ≠ .inRelayWindow → r.1 = false →
                r.2.1 = false ∨ (r.2.2.field g).forwardUnmatched = false →
              exec .inboundTelegramTake s = .next r.2.2.arbitrate)))
    ∧ (∀ (t : Telegram) (c : Byte) (rest : List Byte), t.body = c :: rest →
        (t.reading = some (readingEntries rest)
          ↔ t.kind = 0x02#8 ∧ 1 ≤ c.toNat ∧ c.toNat ≤ 8 ∧ rest.length = 4 * c.toNat)
        ∧ (t.reading = none
          ↔ ¬(t.kind = 0x02#8 ∧ 1 ≤ c.toNat ∧ c.toNat ≤ 8 ∧ rest.length = 4 * c.toNat)))
    ∧ (∀ t : Telegram, t.body = [] → t.reading = none)
    ∧ readingEntries [] = []
    ∧ (∀ (channel hi lo quality : Byte) (rest : List Byte),
        let n := 256 * hi.toNat + lo.toNat
        readingEntries (channel :: hi :: lo :: quality :: rest)
          = (channel.toNat, if n < 32768 then (n : Int) else (n : Int) - 65536, quality)
            :: readingEntries rest)

/-- R21, R46, R47, R48, R51, R58, R59: what the entries of a reading do, one after the other. An unmatched
entry, one of an output point and a doubtful one change nothing. Any other is an arrival: the value is clamped
into the span, the point becomes LIVE, the limit state moves by R48's table, POINT_LIMIT is raised on an entry
into LOW or HIGH, the sample goes to the capture unit and then the alarm entry; a changed raw value on a
trigger point is a GO, and a value on the selection point selects a profile. The moment is kept in whole
milliseconds (R40, log 36). -/
def Obligations.ReadingEntriesAct : Prop :=
  (∀ (s : State) (station : Nat) (e : Nat × Int × Byte) (rest : List (Nat × Int × Byte)),
    let r := s.readingEntry station e.1 e.2.1 e.2.2
    let q := r.2.2.readingEntries station rest
    s.readingEntries station (e :: rest) = (r.2.1 || q.1, !r.1 || q.2.1, q.2.2))
  ∧ (∀ (s : State) (station channel : Nat) (i : Fin 256), s.ptw.byKey station channel = some i →
      (s.config i).inUse = true ∧ (s.config i).station = station ∧ (s.config i).channel = channel)
  ∧ (∀ (s : State) (station channel : Nat), s.ptw.byKey station channel = none → ∀ i : Fin 256,
      (s.config i).inUse = true → ¬((s.config i).station = station ∧ (s.config i).channel = channel))
  ∧ (∀ (s : State) (station channel : Nat) (value : Int) (q : Byte),
    (s.ptw.byKey station channel = none →
      s.readingEntry station channel value q = (false, false, s))
    ∧ (∀ i : Fin 256, s.ptw.byKey station channel = some i →
      let c := s.config i
      let r := s.runtime i
      (c.direction ≠ 0 → s.readingEntry station channel value q = (true, false, s))
      ∧ (c.direction = 0 → q ≠ 0#8 →
        s.readingEntry station channel value q = (true, c.forward == 1, s))
      ∧ (c.direction = 0 → q = 0#8 →
        s.readingEntry station channel value q
          = (true, c.forward == 1, (s.arrival i value).arrivalEvent i r.raw value))))
  ∧ (∀ (s : State) (i : Fin 256) (value : Int),
    let c := s.config i
    let r := s.runtime i
    let v := max c.spanLow (min c.spanHigh value)
    let limit : Limit := match r.limit with
      | .normal => if c.limitHigh < v then .high else if v < c.limitLow then .low else .normal
      | .high => if v < c.limitLow then .low else if v ≤ c.limitHigh - c.deadband then .normal else .high
      | .low => if c.limitHigh < v then .high else if c.limitLow + c.deadband ≤ v then .normal else .low
    let u := s.changeRuntime i (fun r => { r with
      raw := some value, seen := v, watch := .live, limit := limit, clamped := decide (v ≠ value),
      lastArrival := some (s.now / 16000), staleSince := none })
    let quality : Quality := if v = value then .live else .clamped
    (limit = r.limit ∨ limit = .normal → s.arrival i value = u.sample (.point i) v quality)
    ∧ (limit ≠ r.limit → limit ≠ .normal → s.arrival i value
        = ((u.raise .pointLimit i.val (if limit = .low then 1 else 2)).sample (.point i) v
            quality).pointAlarm i))
  ∧ (∀ (s : State) (i : Fin 256) (before : Option Int) (value : Int), let role := (s.config i).role
    ((role = 25 ∨ role = 26) → (before = none ∨ before = some value) →
      s.arrivalEvent i before value = s)
    ∧ (∀ x : Int, before = some x → x ≠ value →
      (role = 25 → s.arrivalEvent i before value = s.goPlayback .showPlayback)
      ∧ (role = 26 → s.arrivalEvent i before value = s.goPlayback .housePlayback))
    ∧ (role = 27 → (value < 0 ∨ 7 < value) →
      s.arrivalEvent i before value = s.raise .tableInvalid i.val value)
    ∧ (∀ k : Fin 8, role = 27 → value = k.val →
      (s.prf.active = some k → s.arrivalEvent i before value = s)
      ∧ (s.prf.active ≠ some k → s.prf.profiles[k].valid = true →
        s.arrivalEvent i before value = s.takeSelection k 2)
      ∧ (s.prf.active ≠ some k → s.prf.profiles[k].valid = false →
        s.arrivalEvent i before value = s.raise .tableInvalid i.val value))
    ∧ (role ≠ 25 → role ≠ 26 → role ≠ 27 → s.arrivalEvent i before value = s))

/-- R20, R23, R24, R25: the telegram processor takes the oldest inbound telegram of the supervisor link. A
READING, a POLL and a destination that is no station on a segment are unroutable; a broadcast goes down to
both segments, plant first; a station's telegram goes down to the segment whose poll list holds it. A COMMAND
passes the ownership filter first: of bad form it is unroutable, and only its passing entries go down, if any
is left. A full relay-down queue drops the copy, charged to the supervisor link. R7: the entries of a COMMAND
body, three bytes each: channel, value high byte first; an empty body is of bad form. -/
def Obligations.SupervisorTelegramsAreRouted : Prop :=
  ∀ (s : State) (t : Telegram) (note : ReplyNote) (rest : List Inbound), s.hold = .working →
    s.traffic.inbound = ⟨t, .supervisor, note⟩ :: rest →
    let u := s.setTraffic { s.traffic with inbound := rest }
    let dst := t.dst.toNat
    let lost := fun (v : State) => v.setSupervisor { v.supervisor with line := { v.supervisor.line with
      counts := { v.supervisor.line.counts with
        unroutable := min 65535 (v.supervisor.line.counts.unroutable + 1) } } }
    let down := fun (g : Segment) (x : Telegram) (v : State) =>
      if (v.field g).relayDown.length < 8 then
        v.setField g { v.field g with relayDown := (v.field g).relayDown ++ [x] }
      else v.setSupervisor { v.supervisor with line := { v.supervisor.line with
        counts := { v.supervisor.line.counts with
          relayDrop := min 65535 (v.supervisor.line.counts.relayDrop + 1) } } }
    let route := fun (x : Telegram) (v : State) =>
      if dst = 127 then down .bowl x (down .plant x v)
      else match v.segmentOf dst with
        | some g => down g x v
        | none => v
    let answers := fun (v : State) => exec .inboundTelegramTake s = .next v.arbitrate
    (t.kind = 0x02#8 ∨ t.kind = 0x01#8 → answers (lost u))
    ∧ (t.kind ≠ 0x02#8 → t.kind ≠ 0x01#8 →
      (dst ≠ 127 → (dst = 0 ∨ 127 < dst ∨ dst = s.mgr.address ∨ s.segmentOf dst = none) →
        answers (lost u))
      ∧ (dst = 127 ∨ dst ≠ 0 ∧ dst < 127 ∧ dst ≠ s.mgr.address ∧ s.segmentOf dst ≠ none →
        (t.kind ≠ 0x03#8 → answers (route t u))
        ∧ (t.kind = 0x03#8 → t.command = none → answers (lost u))
        ∧ (∀ entries : List (Byte × Byte × Byte), t.kind = 0x03#8 → t.command = some entries →
          let r := u.filterEntries dst entries
          (r.1 = [] → answers r.2)
          ∧ (r.1 ≠ [] → answers (route { t with body := commandBody r.1 } r.2)))))
    ∧ (s.segmentOf dst
        = if (s.plant.slotOf dst).isSome then some .plant
          else if (s.bowl.slotOf dst).isSome then some .bowl else none)
    ∧ (∀ (c : Byte) (rest : List Byte), t.body = c :: rest →
        let good := 1 ≤ c.toNat ∧ c.toNat ≤ 8 ∧ rest.length = 3 * c.toNat
        (t.command ≠ none ↔ good)
        ∧ (good → t.command = some (commandEntries rest)
          ∧ commandBody (commandEntries rest) = t.body))
    ∧ (∀ t : Telegram, t.body = [] → t.command = none)
    ∧ commandEntries [] = []
    ∧ (∀ (channel hi lo : Byte) (rest : List Byte),
        commandEntries (channel :: hi :: lo :: rest) = (channel, hi, lo) :: commandEntries rest)
    ∧ (∀ entries : List (Byte × Byte × Byte), commandBody entries
        = byteOf entries.length :: entries.flatMap (fun e => [e.1, e.2.1, e.2.2]))

/-- R24, R55: the ownership filter, entry after entry in body order. An entry that matches no output point
passes untouched. One that matches an output point with override time 0 is struck and raises OVERRIDE with
detail 2; else it passes, the point leaves the pending output list and is under override until the override
time has passed, and OVERRIDE with detail 1 is raised when its owner was AUTO. R45, R52: a job's write to the
point that holds a role: under AUTO the value becomes the auto value and the value to send, and the point
joins the pending output list unless it is pending or the value was the last one sent; under OVERRIDE it
becomes the auto value alone; without a holder the write is lost. Moments are whole milliseconds (R40, log
36). -/
def Obligations.OwnershipFilterActs : Prop :=
  (∀ (s : State) (station : Nat) (e : Byte × Byte × Byte) (rest : List (Byte × Byte × Byte)),
    let r := s.filterEntry station e.1.toNat
    let q := r.2.filterEntries station rest
    s.filterEntries station (e :: rest) = (if r.1 = true then e :: q.1 else q.1, q.2))
  ∧ (∀ (s : State) (station channel : Nat),
    (s.ptw.byKey station channel = none → s.filterEntry station channel = (true, s))
    ∧ (∀ i : Fin 256, s.ptw.byKey station channel = some i →
      let c := s.config i
      let r := s.runtime i
      let u := s.setPtw {
        points := s.ptw.points.set i ⟨c, { r with
          pendingFlag := false, overrideAt := some (s.now / 16000 + 1000 * c.overrideTime) }⟩,
        pendingOut := s.ptw.pendingOut.filter (fun j => j != i) }
      (c.direction = 0 → s.filterEntry station channel = (true, s))
      ∧ (c.direction ≠ 0 → c.overrideTime = 0 →
        s.filterEntry station channel = (false, s.raise .override i.val 2))
      ∧ (c.direction ≠ 0 → c.overrideTime ≠ 0 → r.overrideAt = none →
        s.filterEntry station channel = (true, u.raise .override i.val 1))
      ∧ (c.direction ≠ 0 → c.overrideTime ≠ 0 → r.overrideAt ≠ none →
        s.filterEntry station channel = (true, u))))
  ∧ (∀ (s : State) (role : Nat) (v : Int),
    (s.ptw.holder role = none → s.writeRole role v = s
      ∧ ∀ i : Fin 256, (s.config i).inUse = true → (s.config i).role ≠ role)
    ∧ (∀ i : Fin 256, s.ptw.holder role = some i →
      let c := s.config i
      let r := s.runtime i
      let sets := fun (x : PointRuntime) (out : List (Fin 256)) =>
        s.setPtw { points := s.ptw.points.set i ⟨c, x⟩, pendingOut := out }
      c.inUse = true ∧ c.role = role
      ∧ (r.overrideAt ≠ none →
        s.writeRole role v = sets { r with autoValue := some v } s.ptw.pendingOut)
      ∧ (r.overrideAt = none → r.lastSent = some v ∨ r.pendingFlag = true →
        s.writeRole role v
          = sets { r with autoValue := some v, toSend := some v } s.ptw.pendingOut)
      ∧ (r.overrideAt = none → r.lastSent ≠ some v → r.pendingFlag = false →
        s.writeRole role v
          = sets { r with autoValue := some v, toSend := some v, pendingFlag := true }
              (s.ptw.pendingOut ++ [i]))))

/-- R49, R50, R53, R54, R56: the timers of the points. A LIVE input becomes STALE after its stale interval, a
STALE one LOST after its hold time (at once when that is 0); an AUTO output that has been sent and is not
pending joins the pending output list after its refresh interval; an override ends at its expiry, and the auto
value, if any, becomes pending. Each raises its notice and hands its sample to the capture unit. Points reckon
in whole milliseconds (R40, log 36); an event that cannot happen changes nothing (log 3). -/
def Obligations.PointTimersExpire : Prop :=
  ∀ (s : State) (i : Fin 256), s.hold = .working →
    let c := s.config i
    let r := s.runtime i
    let at_ := fun (t : Nat) => s.setNow (max s.now t)
    let lost := fun (v : State) =>
      (((v.changeRuntime i (fun r => { r with
          watch := .lost, seen := c.fallback, limit := .normal, staleSince := none })).raise
        .pointLost i.val c.station).sample (.point i) c.fallback .lost).pointAlarm i
    (∀ t : Nat, c.inUse = true → c.direction = 0 → r.watch = .live → r.lastArrival = some t →
      let u := at_ (millis (t + 1000 * c.staleAfter))
      let stale := ((u.changeRuntime i (fun r => { r with
          watch := .stale, staleSince := some (u.now / 16000) })).raise
        .pointStale i.val c.station).sample (.point i) r.seen .stale
      exec (.staleExpiry i) s = .next (if c.holdTime = 0 then lost stale else stale).arbitrate)
    ∧ (c.inUse = false ∨ c.direction ≠ 0 ∨ r.watch ≠ .live →
      exec (.staleExpiry i) s = .next s.arbitrate)
    ∧ (∀ t : Nat, c.inUse = true → c.direction = 0 → r.watch = .stale → r.staleSince = some t →
      exec (.holdExpiry i) s = .next (lost (at_ (millis (t + 1000 * c.holdTime)))).arbitrate)
    ∧ (c.inUse = false ∨ c.direction ≠ 0 ∨ r.watch ≠ .stale →
      exec (.holdExpiry i) s = .next s.arbitrate)
    ∧ (∀ (t : Nat) (x : Int), c.inUse = true → c.direction ≠ 0 → r.overrideAt = none →
        r.pendingFlag = false → r.lastSent = some x → r.lastSending = some t →
      exec (.refreshExpiry i) s = .next ((at_ (millis (t + 1000 * c.refresh))).setPtw {
        points := s.ptw.points.set i ⟨c, { r with pendingFlag := true }⟩,
        pendingOut := s.ptw.pendingOut ++ [i] }).arbitrate)
    ∧ (c.inUse = false ∨ c.direction = 0 ∨ r.overrideAt ≠ none ∨ r.pendingFlag = true
        ∨ r.lastSent = none → exec (.refreshExpiry i) s = .next s.arbitrate)
    ∧ (∀ t : Nat, c.inUse = true → c.direction ≠ 0 → r.overrideAt = some t →
      let auto := { r with overrideAt := none }
      (r.autoValue = none →
        exec (.overrideExpiry i) s = .next (((at_ (millis t)).setPtw { s.ptw with
          points := s.ptw.points.set i ⟨c, auto⟩ }).raise .override i.val 3).arbitrate)
      ∧ (∀ v : Int, r.autoValue = some v → r.pendingFlag = false →
        exec (.overrideExpiry i) s = .next (((at_ (millis t)).setPtw {
          points := s.ptw.points.set i ⟨c, { auto with toSend := some v, pendingFlag := true }⟩,
          pendingOut := s.ptw.pendingOut ++ [i] }).raise .override i.val 3).arbitrate))
    ∧ (c.inUse = false ∨ c.direction = 0 ∨ r.overrideAt = none →
      exec (.overrideExpiry i) s = .next s.arbitrate)

/-- R162, R164 to R167: what one capture channel makes of a sample, of a trigger, and of an alarm and a
rewrite of its source point. An active channel writes the sample of its source at its pointer and moves on; it
ends FULL or TRIGGERED_DONE as its count and region say, and an ending raises CAPTURE_END when its flag is
set. All eight channels meet a sample, a trigger, an alarm entry (first as its trigger, then as its stop) and
a rewrite, in channel number order, which for a sample and an alarm is the model's choice (log 34). -/
def Obligations.CaptureChannelsAct : Prop :=
  (∀ s : State,
    (∀ (o : Origin) (v : Int) (q : Quality), s.sample o v q
      = (List.finRange 8).foldl (fun u i => u.sampleChannel o ⟨v, q⟩ i) s)
    ∧ (∀ z : Fin 4, s.fogTrigger z
      = (List.finRange 8).foldl (fun u i => u.triggerChannel 1 z.val i) s)
    ∧ (∀ p : Fin 256, s.pointAlarm p = (List.finRange 8).foldl
        (fun u i => (u.triggerChannel 0 p.val i).stopChannel p i) s)
    ∧ (∀ p : Fin 256, s.sourceRewritten p
      = (List.finRange 8).foldl (fun u i => u.endRewritten p i) s)
    ∧ (∀ (d : Descriptor) (o : Origin), d.hasSource o = true ↔
        match o with
        | .point p => d.sourceKind = 0 ∧ d.sourceNumber = p.val
        | .dewPoint z => d.sourceKind = 1 ∧ d.sourceNumber = z.val
        | .margin z => d.sourceKind = 2 ∧ d.sourceNumber = z.val
        | .budget => d.sourceKind = 3 ∧ d.sourceNumber = 0
        | .grant c => d.sourceKind = 4 ∧ d.sourceNumber = c.val
        | .position c => d.sourceKind = 5 ∧ d.sourceNumber = c.val))
  ∧ ∀ (s : State) (i : Fin 8),
    let c := s.tcu.channels[i]
    let d := c.descriptor
    let sets := fun (v : State) (x : CaptureChannel) =>
      v.setTcu { v.tcu with channels := v.tcu.channels.set i x }
    let ends := fun (v : State) (x : CaptureChannel) (status : EndStatus) =>
      let w := sets v { x with state := .ended, status := status }
      if d.notify = 1 then w.raise .captureEnd i.val status.code else w
    (∀ (o : Origin) (x : Sample),
      (c.active = false ∨ d.hasSource o = false → s.sampleChannel o x i = s)
      ∧ (c.active = true → d.hasSource o = true → d.mode ≤ 1 →
        let last := d.base + d.length ≤ c.pointer + 1
        let counted := d.mode = 0 ∨ c.state = .running
        let x' : Sample := if 32767 < x.value then
            ⟨32767, if x.quality = .degraded then .degraded else .clamped⟩ else x
        let u := s.setTcu { s.tcu with memory := Memory.write .zero s.tcu.memory c.pointer x' }
        let c' := { c with
          pointer := if d.pointerMode = 1 then d.base
            else if last then (if d.mode = 1 then d.base else c.pointer) else c.pointer + 1,
          stored := min 65535 (c.stored + 1),
          remaining := if counted then c.remaining - 1 else c.remaining }
        (d.mode = 0 → (d.pointerMode ≠ 1 ∧ last ∨ c.remaining ≤ 1) →
          s.sampleChannel o x i = ends u c' .full)
        ∧ (d.mode = 1 → c.state = .running → c.remaining ≤ 1 →
          s.sampleChannel o x i = ends u c' .triggeredDone)
        ∧ (d.mode = 0 → ¬(d.pointerMode ≠ 1 ∧ last) → 1 < c.remaining →
          s.sampleChannel o x i = sets u c')
        ∧ (d.mode = 1 → (c.state ≠ .running ∨ 1 < c.remaining) →
          s.sampleChannel o x i = sets u c')))
    ∧ (∀ kind number : Nat,
      (c.state = .armed → d.mode = 1 → d.triggerKind = kind → d.triggerNumber = number →
        s.triggerChannel kind number i = sets s { c with
          state := .running, remaining := d.count, triggerAt := some c.pointer })
      ∧ (c.state ≠ .armed ∨ d.mode ≠ 1 ∨ d.triggerKind ≠ kind ∨ d.triggerNumber ≠ number →
        s.triggerChannel kind number i = s))
    ∧ (∀ p : Fin 256,
      (c.active = true → d.mode = 0 → d.stopOnAlarm = 1 → d.sourceKind = 0 →
          d.sourceNumber = p.val → s.stopChannel p i = ends s c .stoppedByAlarm)
      ∧ (c.active = false ∨ d.mode ≠ 0 ∨ d.stopOnAlarm ≠ 1 ∨ d.sourceKind ≠ 0
          ∨ d.sourceNumber ≠ p.val → s.stopChannel p i = s)
      ∧ (c.active = true → d.sourceKind = 0 → d.sourceNumber = p.val →
          s.endRewritten p i = ends s c .sourceChanged)
      ∧ (c.active = false ∨ d.sourceKind ≠ 0 ∨ d.sourceNumber ≠ p.val → s.endRewritten p i = s))
/-! ### Fog prevention -/

/-- R45, R65 to R68, R70 to R76, R78, R79, R81, R84: one fog evaluation. The inputs of zone z are the seen
values of the points in use that hold the roles 1 + z, 5 + z and 9 + z, all LIVE or not (R66). The profile
fields are taken, each zone is computed from its inputs or becomes UNKNOWN, the demand is formed, the stage
steps by its dwell or is forced to the cap, a changed stage recomputes the effective stage, and the fan is
judged; both outputs are written to their roles. Heat, valves, cues and profiles are left alone, and no notice
but FOG_STATE, FOG_STARVED and CAPTURE_END is raised. The whole of it in order: the zones are put in their new
records one after the other (`ZonesMoveByMargin` says what each move raises and triggers), D is formed and S
stepped, a changed S recomputes E, the fan is written, and each zone hands on its dew point and its margin
with R82's quality, zone 0 to 3, dew point first (log 30). R78 to R80: what a recomputation of E does. -/
def Obligations.FogEvaluationActs : Prop :=
  (∀ s : State,
    let e := min s.fcu.stage ((s.hau.result.classes[(1 : Fin 4)].grant
      + s.hau.result.classes[(1 : Fin 4)].topUp) / s.hau.qStage)
    let u := s.setFcu { s.fcu with effective := e, starved := decide (e < s.fcu.stage) }
    s.recomputeStage = (if e < s.fcu.stage ∧ s.fcu.starved = false then
      u.raise .fogStarved s.fcu.stage e else u).writeRole 28 e)
  ∧ (∀ (s : State) (role : Nat),
    (∀ i : Fin 256, s.ptw.holder role = some i →
      (s.config i).inUse = true ∧ (s.config i).role = role)
    ∧ (s.ptw.holder role = none →
      ∀ i : Fin 256, ¬((s.config i).inUse = true ∧ (s.config i).role = role)))
  ∧ (∀ (s : State) (z : Fin 4),
    (∀ i j k : Fin 256, s.ptw.holder (1 + z.val) = some i → s.ptw.holder (5 + z.val) = some j →
        s.ptw.holder (9 + z.val) = some k →
      s.fogInputs z = some ((s.runtime i).seen, (s.runtime j).seen, (s.runtime k).seen,
        decide ((s.runtime i).watch = .live ∧ (s.runtime j).watch = .live
          ∧ (s.runtime k).watch = .live)))
    ∧ (s.ptw.holder (1 + z.val) = none ∨ s.ptw.holder (5 + z.val) = none
        ∨ s.ptw.holder (9 + z.val) = none → s.fogInputs z = none))
  ∧ ∀ s : State, s.hold = .working → ∃ u : State,
    let f := s.fcu
    let k := u.fcu
    let p : FogFields := match s.prf.active with
      | some i => let q := s.prf.profiles[i]
        ⟨q.warn, q.act, q.fog, q.hysteresis, q.actStage, q.stageCap, q.blindStage⟩
      | none => ⟨300, 150, 50, 25, 2, 4, 1⟩
    exec .fogEvaluation s = .next u.arbitrate
    ∧ u.now = max s.now f.nextEval ∧ k.nextEval = f.nextEval + seconds 10
    ∧ k.fields = p ∧ k.knots = f.knots ∧ k.valid = f.valid ∧ k.dwell = f.dwell
    ∧ (∀ z : Fin 4, let old := f.zones[z]; let new := k.zones[z]
      ((f.valid = false ∨ s.fogInputs z = none) →
        new = { old with state := .unknown, degraded := false, lowDew := false,
                         demand := p.blindStage })
      ∧ (∀ (t rh t1 : Int) (live : Bool), f.valid = true → s.fogInputs z = some (t, rh, t1, live) →
        let air := max (-4000) (min 6000 t)
        let hum := max 0 (min 1000 rh)
        let ice := max (-4000) (min 6000 t1)
        let es := f.saturation air
        let e := (es * hum.toNat + 500) / 1000
        let dew := f.dewPoint e
        let state := p.move old.state (ice - dew.1)
        new = { state := state, degraded := !live, lowDew := dew.2, airT := air, rh := hum, iceT := ice,
                satPressure := es, pressure := e, dewPoint := dew.1, margin := ice - dew.1,
                demand := (match state with
                  | .clear => 0 | .watch => 1 | .act => p.actStage | .fog => 4
                  | .unknown => p.blindStage) }))
    ∧ k.demand = min p.stageCap (max (max k.zones[(0 : Fin 4)].demand k.zones[(1 : Fin 4)].demand)
        (max k.zones[(2 : Fin 4)].demand k.zones[(3 : Fin 4)].demand))
    ∧ (p.stageCap < f.stage → k.stage = p.stageCap ∧ k.lastChange = some u.now)
    ∧ (f.stage ≤ p.stageCap → k.demand ≠ f.stage →
        (∀ t : Nat, f.lastChange = some t → t + seconds f.dwell ≤ u.now) →
        k.stage = (if f.stage < k.demand then f.stage + 1 else f.stage - 1)
        ∧ k.lastChange = some u.now)
    ∧ (f.stage ≤ p.stageCap → (k.demand = f.stage
          ∨ ∃ t : Nat, f.lastChange = some t ∧ u.now < t + seconds f.dwell) →
        k.stage = f.stage ∧ k.lastChange = f.lastChange)
    ∧ (k.stage = f.stage → k.effective = f.effective ∧ k.starved = f.starved)
    ∧ (k.stage ≠ f.stage →
        k.effective = min k.stage ((s.hau.result.classes[(1 : Fin 4)].grant
          + s.hau.result.classes[(1 : Fin 4)].topUp) / s.hau.qStage)
        ∧ k.starved = decide (k.effective < k.stage))
    ∧ k.fan = some (if ∀ z : Fin 4, k.zones[z].state = .clear then 0 else 1)
    ∧ u.ptw = ((if k.stage = f.stage then s else s.writeRole 28 k.effective).writeRole 29
        (if ∀ z : Fin 4, k.zones[z].state = .clear then 0 else 1)).ptw
    ∧ u.hau = s.hau ∧ u.vdu = s.vdu ∧ u.cue = s.cue ∧ u.prf = s.prf ∧ u.mgr = s.mgr
    ∧ u.traffic = s.traffic ∧ u.plant = s.plant ∧ u.bowl = s.bowl ∧ u.supervisor = s.supervisor
    ∧ (∀ n : Fin 18, n ≠ 6 → n ≠ 7 → n ≠ 8 → u.ntu.records[n] = s.ntu.records[n])
    ∧ u.ntu.levels = s.ntu.levels ∧ u.ntu.threshold = s.ntu.threshold
    ∧ (let begun := (s.setNow u.now).setFcu { f with fields := p, nextEval := k.nextEval }
      let moved := (List.finRange 4).foldl
        (fun v z => v.setZone z { k.zones[z] with demand := f.zones[z].demand }) begun
      let stepped := moved.setFcu { k with
        effective := f.effective, starved := f.starved, fan := f.fan }
      let paid := if k.stage = f.stage then stepped else stepped.recomputeStage
      let fanned := (paid.setFcu k).writeRole 29
        (if ∀ z : Fin 4, k.zones[z].state = .clear then 0 else 1)
      let quality := fun (z : Fin 4) => (if k.zones[z].state = .unknown ∨ k.zones[z].degraded = true
        then .degraded
        else match s.fogInputs z with
          | some (t, rh, t1, _) =>
            if t < -4000 ∨ 6000 < t ∨ rh < 0 ∨ 1000 < rh ∨ t1 < -4000 ∨ 6000 < t1
                ∨ k.zones[z].lowDew = true then .clamped else .live
          | none => .degraded : Quality)
      u = (List.finRange 4).foldl (fun v z => (v.sample (.dewPoint z) k.zones[z].dewPoint
          (quality z)).sample (.margin z) k.zones[z].margin (quality z)) fanned)

/-- R67 to R71: over a table that VALIDATE passes, with pressures of two bytes, the saturation pressure at a
temperature as used lies between the two knots about it and is exact at a knot, the vapour pressure never
exceeds it, the dew point lies in −4000 to +6000 and between the two knots about its pressure, and the margin
in −10000 to +10000. -/
def Obligations.DewPointStaysInTable : Prop :=
  ∀ f : Fcu, f.tableOk = true → (∀ i : Fin 41, f.knots[i] ≤ 65535) →
    (∀ t : Int, -4000 ≤ t → t ≤ 6000 →
      let es := f.saturation t
      f.knot (knotIndex t) ≤ es ∧ es ≤ f.knot (knotIndex t + 1) ∧ 1 ≤ es ∧ es ≤ 65535
      ∧ knotIndex t ≤ 39 ∧ -4000 + 250 * (knotIndex t : Int) ≤ t
      ∧ t ≤ -4000 + 250 * ((knotIndex t : Int) + 1))
    ∧ (∀ i : Fin 41, f.saturation (-4000 + 250 * (i.val : Int)) = f.knots[i])
    ∧ (∀ es rh : Nat, rh ≤ 1000 → vapourPressure es rh ≤ es
      ∧ (rh = 1000 → vapourPressure es rh = es) ∧ (rh = 0 → vapourPressure es rh = 0))
    ∧ (∀ e : Nat, -4000 ≤ (f.dewPoint e).1 ∧ (f.dewPoint e).1 ≤ 6000
      ∧ ((f.dewPoint e).2 = true ↔ e < f.knot 0)
      ∧ (f.knot 0 ≤ e → e < f.knot 40 → ∃ i : Nat, i ≤ 39 ∧ f.knot i ≤ e ∧ e < f.knot (i + 1)
          ∧ -4000 + 250 * (i : Int) ≤ (f.dewPoint e).1
          ∧ (f.dewPoint e).1 ≤ -4000 + 250 * ((i : Int) + 1))
      ∧ (f.knot 40 ≤ e → (f.dewPoint e).1 = 6000)
      ∧ ∀ t1 : Int, -4000 ≤ t1 → t1 ≤ 6000 →
        -10000 ≤ t1 - (f.dewPoint e).1 ∧ t1 - (f.dewPoint e).1 ≤ 10000)

/-- R73, R74: the margin's raw state, the move of a zone by it, and what the move raises. A worsening goes
straight to the raw state; an improvement goes one state, when the margin stands the hysteresis above the
present threshold; UNKNOWN takes the raw state. Entering FOG raises FOG_STATE with detail 4 and triggers,
leaving it raises FOG_STATE with the new state's code. -/
def Obligations.ZonesMoveByMargin : Prop :=
  (∀ (p : FogFields) (m : Int), p.fog < p.act → p.act < p.warn → 0 ≤ p.hysteresis →
    let raw : ZoneState :=
      if m < p.fog then .fog else if m < p.act then .act else if m < p.warn then .watch else .clear
    p.move .unknown m = raw
    ∧ p.move .clear m = raw
    ∧ p.move .watch m = (if m < p.act then raw
        else if p.warn + p.hysteresis ≤ m then .clear else .watch)
    ∧ p.move .act m = (if m < p.fog then .fog
        else if p.act + p.hysteresis ≤ m then .watch else .act)
    ∧ p.move .fog m = (if p.fog + p.hysteresis ≤ m then .act else .fog))
  ∧ (∀ (s : State) (i : Fin 4) (z : FogZone), let before := s.fcu.zones[i].state
    let u := s.setFcu { s.fcu with zones := s.fcu.zones.set i z }
    (before ≠ .fog → z.state = .fog → s.setZone i z = (u.raise .fogState i.val 4).fogTrigger i)
    ∧ (before = .fog → z.state ≠ .fog →
        s.setZone i z = u.raise .fogState i.val (match z.state with
          | .unknown => 0 | .clear => 1 | .watch => 2 | .act => 3 | .fog => 4))
    ∧ ((before = .fog ↔ z.state = .fog) → s.setZone i z = u))

/-! ### Heat recovery -/

/-- R87 to R95, R101, R104, R109: one heat evaluation publishes a result from what it reads: the recovered
heat and loop status, the filtered budget, the boiler level, the subfloor call, the demands of the classes and
of the stand zones. The next falls 2 s later; the boiler command is remembered. R78 to R80, R102 to R106,
R113: what follows from the result, in order: FCU recomputes E, each valve channel is handed its target, the
zone valve outputs, 0 to 7, and then the boiler command are written (log 37), BOILER_TOPUP is raised when the
command leaves 0 and HEAT_SHORT when the short condition begins, and the five samples go to the capture unit,
Q_f first, then the grants of class 0 to 3 (log 28). Nothing else changes. -/
def Obligations.HeatEvaluationPublishes : Prop :=
  ∀ s : State, s.hold = .working → ∃ u : State,
    let h := s.hau
    let r := u.hau.result
    let profile := s.prf.active.map (fun i => s.prf.profiles[i])
    exec .heatEvaluation s = .next u.arbitrate
    ∧ u.now = max s.now h.nextEval
    ∧ u.hau = { h with budget := r.budget, first := false, call := r.call, result := r,
                       prevBoiler := r.boilerCommand, nextEval := h.nextEval + seconds 2 }
    ∧ ((s.readRole 21 = none ∨ s.readRole 22 = none ∨ s.readRole 23 = none) →
        r.heat = 0 ∧ r.clamped = false ∧ r.loop = .unassigned)
    ∧ (∀ flow supply back : Int × Bool, s.readRole 21 = some flow → s.readRole 22 = some supply →
        s.readRole 23 = some back →
        let d := supply.1 - back.1
        let q := if flow.1 ≤ 0 ∨ d ≤ 0 then 0 else flow.1.toNat * h.k * d.toNat / 100000
        r.heat = min q 65535 ∧ r.clamped = decide (65535 < q)
        ∧ r.loop = (if flow.2 && supply.2 && back.2 then .complete else .degraded))
    ∧ r.budget = (if h.first = true then r.heat
        else ((h.budget : Int) + Int.tdiv ((r.heat : Int) - h.budget) 8).toNat)
    ∧ r.level = (match profile with
        | some p => min p.boilerLevel s.prf.limit
        | none => 0)
    ∧ r.boilerCap = h.boilerCap
    ∧ r.call = (match s.readRole 24, profile with
        | some t, some p =>
          if h.call = false ∧ t.1 < p.subfloorSetpoint then true
          else if h.call = true ∧ p.subfloorSetpoint + 50 ≤ t.1 then false else h.call
        | _, _ => true)
    ∧ r.subfloorDegraded = (match s.readRole 24 with
        | some t => !t.2
        | none => false)
    ∧ r.classes[(0 : Fin 4)].demand = (match profile with
        | some p => if r.call = true then p.subfloorHeat else 0
        | none => 0)
    ∧ r.classes[(1 : Fin 4)].demand = s.fcu.stage * h.qStage
    ∧ r.classes[(2 : Fin 4)].demand = total (r.zones.map ZoneResult.demand)
    ∧ r.classes[(3 : Fin 4)].demand = (match profile with
        | some p => if p.meltEnable = 1 then p.meltHeat else 0
        | none => 0)
    ∧ (∀ c : Fin 4, r.classes[c].inService
        = ((s.valve c).state == .ready || (s.valve c).state == .seeking
            || (s.valve c).state == .settling))
    ∧ (∀ z : Fin 8, let x := r.zones[z]
      (x.takesPart = true ↔ s.readRole (13 + z.val) ≠ none
        ∧ ∃ i : Fin 256, s.ptw.holder (30 + z.val) = some i ∧ (s.runtime i).overrideAt = none)
      ∧ x.gain = ((List.finRange 256).map (fun ch =>
          if s.hau.loads[ch].zone = some z then s.cue.levelMap[ch] * s.hau.loads[ch].weight
          else 0)).sum / 2550
      ∧ (x.takesPart = false ∨ profile = none → x.demand = 0)
      ∧ (∀ (p : Profile) (t : Int × Bool), x.takesPart = true → profile = some p →
          s.readRole (13 + z.val) = some t →
          let setpoint := if p.mask.testBit z.val then (p.occupied : Int) else p.unoccupied
          x.demand = (max 0 (min (h.zones[z].maxHeat : Int)
            (Int.tdiv ((h.zones[z].gain : Int) * (setpoint - t.1)) 100 - x.gain))).toNat
          ∧ x.degraded = !t.2))
    ∧ (let c := fun (i : Fin 4) => r.classes[i]
      let lacks := fun (i : Fin 4) => (c i).demand - (c i).grant - (c i).topUp
      let begun := (s.setNow u.now).setHau { u.hau with prevBoiler := h.prevBoiler }
      let handed := (List.finRange 4).foldl (fun v i => v.valveTarget i (c i).target)
        begun.recomputeStage
      let written := ((List.finRange 8).foldl
        (fun v z => v.writeRole (30 + z.val) r.zones[z].output) handed).writeRole 38 r.boilerCommand
      let topped := if r.boilerCommand ≠ 0 ∧ h.prevBoiler = 0 then
        written.raise .boilerTopup r.level r.boilerCommand else written
      let ended := topped.setHau u.hau
      let told := if r.short = true ∧ h.result.short = false then
        ended.raise .heatShort (if 0 < lacks 0 then 0 else 1) ((lacks 0 + lacks 1 : Nat) : Int)
        else ended
      let quality := fun (also : Bool) => (if r.loop = .degraded ∨ also = true then .degraded
        else if r.clamped = true then .clamped else .live : Quality)
      let zones := decide (∃ z : Fin 8, r.zones[z].takesPart = true ∧ r.zones[z].degraded = true)
      u = ((((told.sample .budget r.budget (quality false)).sample (.grant 0) (c 0).grant
        (quality r.subfloorDegraded)).sample (.grant 1) (c 1).grant (quality false)).sample (.grant 2)
        (c 2).grant (quality zones)).sample (.grant 3) (c 3).grant (quality false))
    ∧ u.cue = s.cue ∧ u.prf = s.prf ∧ u.mgr = s.mgr ∧ u.traffic = s.traffic ∧ u.plant = s.plant
    ∧ u.bowl = s.bowl ∧ u.supervisor = s.supervisor
    ∧ (∀ n : Fin 18, n ≠ 6 → n ≠ 8 → n ≠ 9 → n ≠ 10 → u.ntu.records[n] = s.ntu.records[n])

/-- R96 to R103, R105: the published result shares the budget in the order of the classes and then the boiler:
grants of classes 0, 1, the zones of class 2 and class 3 from what is left, the rejected heat, top-ups below
the boiler level, valve targets and zone valve outputs rounded half up, and the short condition. -/
def Obligations.HeatIsSharedInOrder : Prop :=
  ∀ s t : State, s.hold = .working → exec .heatEvaluation s = .next t →
    let r := t.hau.result
    let c := fun (i : Fin 4) => r.classes[i]
    let serve := fun (i : Fin 4) (left : Nat) =>
      if (c i).inService = true then min (c i).demand left else 0
    let cap := serve 2 (r.budget - (c 0).grant - (c 1).grant)
    let topUp := fun (i : Fin 4) (left : Nat) =>
      if i.val < r.level ∧ (c i).inService = true then min ((c i).demand - (c i).grant) left else 0
    let short0 := (c 0).demand - (c 0).grant - (c 0).topUp
    let short1 := (c 1).demand - (c 1).grant - (c 1).topUp
    (c 0).grant = serve 0 r.budget
    ∧ (c 1).grant = serve 1 (r.budget - (c 0).grant)
    ∧ (∀ z : Fin 8, r.zones[z].grant =
        if (c 2).demand = 0 then 0
        else if cap = (c 2).demand then r.zones[z].demand
        else r.zones[z].demand * cap / (c 2).demand)
    ∧ (c 2).grant = total (r.zones.map ZoneResult.grant)
    ∧ cap - (c 2).grant ≤ 7
    ∧ (c 3).grant = serve 3 (r.budget - (c 0).grant - (c 1).grant - (c 2).grant)
    ∧ r.rejected = r.budget - (c 0).grant - (c 1).grant - (c 2).grant - (c 3).grant
    ∧ (c 0).topUp = topUp 0 r.boilerCap
    ∧ (c 1).topUp = topUp 1 (r.boilerCap - (c 0).topUp)
    ∧ (c 2).topUp = 0 ∧ (c 3).topUp = 0
    ∧ r.boilerCommand = (c 0).topUp + (c 1).topUp
    ∧ (∀ i : Fin 4, let travel := (s.valve i).config.travel
        (c i).target = if s.hau.caps[i] = 0 then 0
          else min travel ((((c i).grant + (c i).topUp) * travel + s.hau.caps[i] / 2)
            / s.hau.caps[i]))
    ∧ (∀ z : Fin 8, let most := s.hau.zones[z].maxHeat
        r.zones[z].output = if most = 0 then 0
          else min 1000 ((r.zones[z].grant * 1000 + most / 2) / most))
    ∧ (r.short = true ↔ 0 < short0 ∨ 0 < short1)
    ∧ (r.short = true → s.hau.result.short = false → s.ntu.levels[(9 : Fin 18)] ≠ 0 →
        s.supervisor.line.sending ≠ none →
        t.ntu.records[(9 : Fin 18)] = ⟨min 255 (s.ntu.records[(9 : Fin 18)].count + 1),
          (if 0 < short0 then 0 else 1), ((short0 + short1 : Nat) : Int)⟩)
    ∧ (r.short = false ∨ s.hau.result.short = true → s.supervisor.line.sending ≠ none →
        t.ntu.records[(9 : Fin 18)] = s.ntu.records[(9 : Fin 18)])

/-- R90: the filtered budget. At each evaluation an eighth of the distance to Q is added, truncated toward
zero; the first after a reset takes Q itself and clears the mark. It moves toward Q and never passes it, it
stands when they differ by 7 or less, it keeps to 0 to 65535, and it is the budget that is shared out. -/
def Obligations.FilteredBudgetFollowsHeat : Prop :=
  (∀ s t : State, s.hold = .working → exec .heatEvaluation s = .next t →
    let q := t.hau.result.heat
    let before := s.hau.budget
    let after := t.hau.budget
    t.hau.result.budget = after ∧ t.hau.first = false
    ∧ (s.hau.first = true → after = q)
    ∧ (s.hau.first = false → (after : Int) = before + Int.tdiv ((q : Int) - before) 8
      ∧ (before ≤ q → before ≤ after ∧ after ≤ q) ∧ (q ≤ before → q ≤ after ∧ after ≤ before)
      ∧ (q ≤ before + 7 → before ≤ q + 7 → after = before))
    ∧ (before ≤ 65535 → after ≤ 65535)
    ∧ t.hau.result.classes[0].grant + t.hau.result.classes[1].grant
        + t.hau.result.classes[2].grant + t.hau.result.classes[3].grant
        + t.hau.result.rejected = after)
  ∧ filterBudget false 3900 3978 = 3909 ∧ filterBudget false 3900 3000 = 3788
  ∧ (∀ (h : Hau) (k : Nat), (h.restarted k).first = true ∧ (h.restarted k).budget = 0)
  ∧ Hau.powerOn.first = true ∧ Hau.powerOn.budget = 0

/-! ### Cues -/

/-- R142, R143, R144, R145: one frame. Both playbacks move, SHOW first (log 33); then every channel of the map
is the higher of the two playbacks' levels, an IDLE one counting 0; a block joins the due set when it differs
from its last-sent copy, and every third frame the block at the refresh pointer joins it and the pointer moves
on. The next frame falls 25 ms later. -/
def Obligations.CueFrameMergesAndMarks : Prop :=
  ∀ s : State, s.hold = .working → ∃ u : State,
    let v := (((s.setNow (max s.now s.cue.nextFrame)).setCue
      { s.cue with nextFrame := s.cue.nextFrame + millis 25 }).framePlayback .showPlayback).framePlayback
        .housePlayback
    let k := u.cue
    let counts := fun (p : Playback) (ch : Fin 256) => if p.state = .idle then 0 else p.levels[ch]
    exec .cueFrame s = .next u.arbitrate
    ∧ u = v.setCue k
    ∧ k = { v.cue with levelMap := k.levelMap, due := k.due, refreshPtr := k.refreshPtr,
                       refreshCount := k.refreshCount }
    ∧ k.nextFrame = s.cue.nextFrame + millis 25
    ∧ (∀ ch : Fin 256,
        k.levelMap[ch] = max (counts k.playbackShow ch) (counts k.playbackHouse ch))
    ∧ (s.cue.refreshCount + 1 < 3 →
        k.refreshCount = s.cue.refreshCount + 1 ∧ k.refreshPtr = s.cue.refreshPtr)
    ∧ (3 ≤ s.cue.refreshCount + 1 →
        k.refreshCount = 0 ∧ k.refreshPtr = s.cue.refreshPtr + 1)
    ∧ (∀ b : Fin 16, k.due[b] = true ↔ s.cue.due[b] = true
        ∨ (∃ j : Fin 16, k.levelMap[blockChannel b j] ≠ s.cue.lastSent[blockChannel b j])
        ∨ (3 ≤ s.cue.refreshCount + 1 ∧ b = s.cue.refreshPtr))

/-- R135, R136: what a frame does to one playback. Only a FADING one moves. With K above 0 its count rises and
each channel in the fade takes its level between L0 and L1, truncated toward zero; at the count K, or at once
when K is 0, its cue completes. -/
def Obligations.FadesMoveAtFrames : Prop :=
  (∀ (s : State) (b : PlaybackId), let p := s.playback b
    let k := p.fade.count + 1
    let moved := s.setPlayback b { p with
      levels := tabulate 256 (fun ch => match p.fade.channels[ch] with
        | some x => ((x.1 : Int) + Int.tdiv (((x.2 : Int) - x.1) * k) p.fade.length).toNat
        | none => p.levels[ch]),
      fade := { p.fade with count := k } }
    (p.state ≠ .fading → s.framePlayback b = s)
    ∧ (p.state = .fading → p.fade.length = 0 → s.framePlayback b = s.completeCue b)
    ∧ (p.state = .fading → p.fade.length ≠ 0 → k < p.fade.length → s.framePlayback b = moved)
    ∧ (p.state = .fading → p.fade.length ≠ 0 → p.fade.length ≤ k →
        s.framePlayback b = moved.completeCue b))
  ∧ (∀ l0 l1 k n : Nat, 0 < n → k ≤ n →
      (l0 ≤ l1 → l0 ≤ fadeLevel l0 l1 k n ∧ fadeLevel l0 l1 k n ≤ l1)
      ∧ (l1 ≤ l0 → l1 ≤ fadeLevel l0 l1 k n ∧ fadeLevel l0 l1 k n ≤ l0)
      ∧ (k = n → fadeLevel l0 l1 k n = l1)
      ∧ (∀ j : Nat, j ≤ k → (l0 ≤ l1 → fadeLevel l0 l1 j n ≤ fadeLevel l0 l1 k n)
        ∧ (l1 ≤ l0 → fadeLevel l0 l1 k n ≤ fadeLevel l0 l1 j n)))
  ∧ fadeLevel 40 200 27 80 = 94 ∧ fadeLevel 40 200 30 80 = 100 ∧ fadeLevel 200 0 27 80 = 133
  ∧ fadeLevel 200 0 30 80 = 125

/-- R133, R134: a cue starts, or fails its start check and puts the playback in FAULT with its pointer and
levels kept. In the fade each channel goes from the playback's own level to the level of its last naming that
is not parked. R130, R131: the runs of the three forms. R136: a FADING playback's cue completes: the channels
of the fade take their targets, the record is written back (ADVANCE moves its channel by the step within 0 to
255, SWING also negates the step), the pointer becomes the record's next cue, CUE_DONE is raised when the
record asks for it, and the playback is HELD or, without hold after, the cue at the pointer starts. -/
def Obligations.CuesStartAndComplete : Prop :=
  (∀ (s : State) (b : PlaybackId), let p := s.playback b
    let c := s.cue.cues[p.pointer]
    (∀ reason : Nat, c.startFault s.cue = some reason →
      s.startCue b = (s.setPlayback b { p with
          state := .fault, current := none, fade := ⟨.replicate 256 none, 0, 0⟩ }).raise .cueFault
        p.pointer.val ((256 * (match b with | .showPlayback => 0 | .housePlayback => 1) + reason : Nat)))
    ∧ (c.startFault s.cue = none →
      s.startCue b = s.setPlayback b { p with
        state := .fading, current := some p.pointer,
        fade := ⟨tabulate 256 (fun ch => ((c.targets s.cue)[ch]).map (fun l1 => (p.levels[ch], l1))),
          4 * c.fade, 0⟩ }))
  ∧ (∀ (c : CueRecord) (e : CueEngine), let runs := c.runs e; let n := (namings runs).length
    (c.form ≠ 0 → 512 < c.spanIndex + c.spanCount → c.startFault e = some 3)
    ∧ ((c.form = 0 ∨ c.spanIndex + c.spanCount ≤ 512) →
      ((∃ r ∈ runs, r.2 = 0) → c.startFault e = some 1)
      ∧ ((∀ r ∈ runs, r.2 ≠ 0) →
        ((∃ r ∈ runs, 255 < r.1 + r.2 - 1) → c.startFault e = some 2)
        ∧ ((∀ r ∈ runs, r.1 + r.2 - 1 ≤ 255) →
          (c.source = 1 → 4096 < c.sceneIndex + n → c.startFault e = some 4)
          ∧ ((c.source ≠ 1 ∨ c.sceneIndex + n ≤ 4096) → c.startFault e = none)))))
  ∧ (∀ (c : CueRecord) (e : CueEngine) (ch : Fin 256),
      (c.targets e)[ch] = (((namings (c.runs e)).zipIdx.filter (fun x =>
        x.1 == ch.val && !(c.parkEnable == 1 && c.levelOf e x.2 == c.parkValue))).getLast?).map
          (fun x => if c.source = 1 then e.scene (c.sceneIndex + x.2) else c.flat))
  ∧ (∀ (c : CueRecord) (e : CueEngine),
      (c.form = 0 → c.runs e
        = (List.range (c.repeats + 1)).map (fun r => (c.start + r * c.stride, c.width)))
      ∧ (c.form = 1 → c.runs e = (List.range c.spanCount).map (fun j =>
          (c.base + (e.span (c.spanIndex + j)).offset, (e.span (c.spanIndex + j)).width)))
      ∧ (c.form = 2 → ∀ j : Nat, j < c.spanCount → (c.runs e)[j]?
          = some (c.base + ((List.range (j + 1)).map
              (fun i => (e.span (c.spanIndex + i)).offset)).sum,
            (e.span (c.spanIndex + j)).width)))
  ∧ (∀ (s : State) (b : PlaybackId) (i : Fin 256), let p := s.playback b
    let c := s.cue.cues[i]
    let held := ({ s.cue with cues := s.cue.cues.set i c.writeBack }).setPlayback b {
      state := .held, pointer := Fin.ofNat 256 c.next, current := some i,
      levels := tabulate 256 (fun ch => match p.fade.channels[ch] with
        | some x => x.2
        | none => p.levels[ch]),
      fade := ⟨.replicate 256 none, 0, 0⟩ }
    let done := if c.notify = 1 then (s.setCue held).raise .cueDone i.val
        (match b with | .showPlayback => 0 | .housePlayback => 1)
      else s.setCue held
    p.current = some i → s.completeCue b = if c.holdAfter = 1 then done else done.startCue b)
  ∧ (∀ c : CueRecord,
      let moved := fun (x : Nat) => (((x : Int) + c.step) % 256).toNat
      (c.update = 0 → c.writeBack = c)
      ∧ (c.update = 1 → c.form = 0 → c.writeBack = { c with start := moved c.start })
      ∧ (c.update = 1 → c.form ≠ 0 → c.writeBack = { c with base := moved c.base })
      ∧ (c.update = 2 → c.form = 0 →
        c.writeBack = { c with start := moved c.start, step := -c.step })
      ∧ (c.update = 2 → c.form ≠ 0 →
        c.writeBack = { c with base := moved c.base, step := -c.step }))
/-! ### Valve drives -/

/-- R112, R113, R114, R115: seeks and settling. A step of a seek moves the position by one and hands on a
sample; at the target the channel settles, else the next step begins. The end of SETTLING raises VALVE_DONE
when the notice flag is set and acts on the slot: nothing or the position itself gives READY, another target a
seek, HOME a home run. A settle time of 0 ends at once. R113: where a target goes. The end of a step outside
SEEKING, or of settling outside SETTLING, changes nothing (log 3). -/
def Obligations.SeeksAndSettling : Prop :=
  ∀ (s : State) (c : Fin 4),
    let v := s.valve c
    let seek := fun (x : Valve) (now t : Nat) => { x with
      state := .seeking, slot := .empty, target := t, toOpen := decide (x.position < t),
      remaining := (t - x.position) + (x.position - t), stepEnd := now + millis x.config.period }
    let ended := if v.config.notify = true then s.raise .valveDone c.val v.position else s
    (v.state ≠ .seeking → s.hold = .working → exec (.seekStepEnd c) s = .next s.arbitrate)
    ∧ (v.state ≠ .settling → s.hold = .working → exec (.settleEnd c) s = .next s.arbitrate)
    ∧ (v.state = .seeking → s.hold = .working → v.position ≠ v.target →
      let now := max s.now v.stepEnd
      let moved := { v with
        position := if v.position < v.target then v.position + 1 else v.position - 1,
        remaining := v.remaining - 1 }
      let u := ((s.setNow now).setValve c moved).sample (.position c) moved.position .live
      (moved.position ≠ v.target → exec (.seekStepEnd c) s
        = .next (u.setValve c { moved with stepEnd := now + millis v.config.period }).arbitrate)
      ∧ (moved.position = v.target → exec (.seekStepEnd c) s = .next (u.enterSettling c).arbitrate))
    ∧ (v.state = .settling → s.hold = .working →
      exec (.settleEnd c) s = .next (((s.setNow (max s.now v.stepEnd)).endSettling c).arbitrate))
    ∧ (let settling := s.setValve c { v with
          state := .settling, stepEnd := s.now + millis (100 * v.config.settle) }
      (v.config.settle ≠ 0 → s.enterSettling c = settling)
      ∧ (v.config.settle = 0 → s.enterSettling c = settling.endSettling c))
    ∧ (v.slot = .empty → s.endSettling c = ended.setValve c { v with state := .ready })
    ∧ (∀ t : Nat, v.slot = .target t →
      (t = v.position →
        s.endSettling c = ended.setValve c { v with state := .ready, slot := .empty })
      ∧ (t ≠ v.position → s.endSettling c = ended.setValve c (seek v s.now t)))
    ∧ (v.slot = .home → s.endSettling c = ended.startHome c)
    ∧ (∀ target : Nat, let t := min v.config.travel target
      (v.state = .ready → t = v.position → s.valveTarget c target = s)
      ∧ (v.state = .ready → v.slot = .empty → t ≠ v.position →
        s.valveTarget c target = s.setValve c (seek v s.now t))
      ∧ (v.state = .seeking ∨ v.state = .settling ∨ v.state.isHoming = true →
        s.valveTarget c target = s.setValve c { v with slot := .target t })
      ∧ (v.state = .unhomed ∨ v.state = .manual ∨ v.state = .fault →
        s.valveTarget c target = s))

/-- R117, R118: home runs. A run starts toward closed with target and search count 0; with CLOSED asserted the
search is over. Each search step counts; at the search limit, travel and its eighth, the channel goes to FAULT
with HOME_NOT_FOUND. After CLOSED the step in progress is completed and the seat steps follow. At the end of
the last the position is 0, its sample is handed on, and the channel settles. The end of a search or seat step
outside HOMING changes nothing (log 3). -/
def Obligations.HomeRunsSearchAndSeat : Prop :=
  ∀ (s : State) (c : Fin 4),
    let v := s.valve c
    let at_ := s.setNow (max s.now v.stepEnd)
    let next := at_.now + millis v.config.period
    let limit := v.config.travel + v.config.travel / 8
    let homed := fun (w : State) =>
      ((w.setValve c { w.valve c with position := 0 }).sample (.position c) 0 .live).enterSettling c
    (s.hold = .working →
      ((∀ phase : HomePhase, v.state ≠ .homing phase) →
        exec (.searchStepEnd c) s = .next s.arbitrate ∧ exec (.seatStepEnd c) s = .next s.arbitrate)
      ∧ (v.state = .homing .search → v.searchCount + 1 < limit →
        exec (.searchStepEnd c) s = .next (at_.setValve c { v with
          searchCount := v.searchCount + 1, stepEnd := next }).arbitrate)
      ∧ (v.state = .homing .search → limit ≤ v.searchCount + 1 →
        exec (.searchStepEnd c) s = .next ((at_.setValve c { v with
          searchCount := v.searchCount + 1, state := .fault, slot := .empty, target := v.position,
          cause := .homeNotFound }).raise .valveFault c.val 2).arbitrate)
      ∧ (v.state = .homing .searchEnding → v.config.seat ≠ 0 →
        exec (.searchStepEnd c) s = .next (at_.setValve c { v with
          searchCount := v.searchCount + 1, state := .homing (.seat v.config.seat),
          stepEnd := next }).arbitrate)
      ∧ (v.state = .homing .searchEnding → v.config.seat = 0 →
        exec (.searchStepEnd c) s = .next (homed (at_.setValve c { v with
          searchCount := v.searchCount + 1 })).arbitrate)
      ∧ (∀ left : Nat, v.state = .homing (.seat left) →
        (1 < left → exec (.seatStepEnd c) s = .next (at_.setValve c { v with
          state := .homing (.seat (left - 1)), stepEnd := next }).arbitrate)
        ∧ (left ≤ 1 → exec (.seatStepEnd c) s = .next (homed at_).arbitrate)))
    ∧ (let begun := { v with state := .homing .search, toOpen := false, target := 0, searchCount := 0,
                             slot := .empty, stepEnd := s.now + millis v.config.period }
      (v.closed = false → s.startHome c = s.setValve c begun)
      ∧ (v.closed = true → v.config.seat ≠ 0 →
        s.startHome c = s.setValve c { begun with state := .homing (.seat v.config.seat) })
      ∧ (v.closed = true → v.config.seat = 0 →
        let x := { begun with position := 0, state := .settling,
                              stepEnd := s.now + millis (100 * v.config.settle) }
        let w := ((s.setValve c { begun with position := 0 }).sample (.position c) 0 .live).setValve c x
        (v.config.settle ≠ 0 → s.startHome c = w)
        ∧ (v.config.settle = 0 → s.startHome c
            = (if v.config.notify = true then w.raise .valveDone c.val 0 else w).setValve c
                { x with state := .ready })))
    ∧ (v.state = .unhomed → v.config.autoHome = true → s.autoHome c = s.startHome c)
    ∧ (v.state ≠ .unhomed ∨ v.config.autoHome = false → s.autoHome c = s)

/-- R120: the closed stop. An assertion ends a search; a seek toward closed above position 0 becomes
EARLY_CLOSE at position 0; above position 0 a seek toward open, SETTLING and READY become STOP_MISMATCH,
UNHOMED; else only the level changes. A release acts in no state. While the part is held, or before the
channels are placed by their lines, a change moves the level alone: that is the model's choice (log 12). -/
def Obligations.ClosedStopActs : Prop :=
  ∀ (s : State) (c : Fin 4),
    let v := s.valve c
    let u := s.setValve c { v with closed := true }
    let works := s.hold = .working ∧ s.vdu.linesPlaced = true ∧ v.closed = false
    exec (.closedRelease c) s = .next (s.setValve c { v with closed := false }).arbitrate
    ∧ (v.closed = true → exec (.closedAssert c) s = .next s.arbitrate)
    ∧ ((s.hold ≠ .working ∨ s.vdu.linesPlaced = false) → v.closed = false →
      exec (.closedAssert c) s = .next u.arbitrate)
    ∧ (works → v.state = .homing .search →
      exec (.closedAssert c) s = .next (s.setValve c { v with
        closed := true, state := .homing .searchEnding }).arbitrate)
    ∧ (works → v.state = .seeking → v.position ≠ 0 → v.toOpen = false →
      exec (.closedAssert c) s = .next ((((s.setValve c { v with
          closed := true, position := 0, target := 0 }).raise .valveFault c.val 3).sample
        (.position c) 0 .degraded).enterSettling c).arbitrate)
    ∧ (works → v.position ≠ 0 →
        (v.state = .seeking ∧ v.toOpen = true ∨ v.state = .settling ∨ v.state = .ready) →
      exec (.closedAssert c) s = .next (((s.setValve c { v with
          closed := true, state := .unhomed, slot := .empty, target := v.position }).raise
        .valveFault c.val 4).autoHome c).arbitrate)
    ∧ (works → (v.state = .homing .searchEnding ∨ (∃ left, v.state = .homing (.seat left))
          ∨ v.state = .unhomed ∨ v.state = .manual ∨ v.state = .fault
          ∨ v.position = 0 ∧ (v.state = .seeking ∨ v.state = .settling ∨ v.state = .ready)) →
      exec (.closedAssert c) s = .next u.arbitrate)

/-- R121, R122: the hand switch and the drive fault. MAN takes the channel to MANUAL from any state, with no
fault cause; its release leaves UNHOMED, or FAULT with its notice when DFLT stands, or a home run by the
auto-home flag. DFLT takes the channel to FAULT from any state but MANUAL and raises VALVE_FAULT; its release
changes the level alone. While the part is held, or before the channels are placed by their lines, only the
levels change: that is the model's choice (log 12). -/
def Obligations.HandAndFaultLinesAct : Prop :=
  ∀ (s : State) (c : Fin 4),
    let v := s.valve c
    let acts := s.hold = .working ∧ s.vdu.linesPlaced = true
    let resting := fun (x : Valve) (state : ValveState) =>
      { x with state := state, slot := .empty, target := x.position }
    let fault := fun (x : Valve) =>
      (s.setValve c { resting x .fault with cause := .driveFault }).raise .valveFault c.val 1
    (v.man = true → exec (.manAssert c) s = .next s.arbitrate)
    ∧ (v.man = false → ¬acts →
      exec (.manAssert c) s = .next (s.setValve c { v with man := true }).arbitrate)
    ∧ (v.man = false → acts →
      exec (.manAssert c) s = .next (s.setValve c
        { resting { v with man := true } .manual with cause := .none }).arbitrate)
    ∧ (¬acts ∨ v.state ≠ .manual →
      exec (.manRelease c) s = .next (s.setValve c { v with man := false }).arbitrate)
    ∧ (acts → v.state = .manual → v.dflt = true →
      exec (.manRelease c) s = .next (fault { v with man := false }).arbitrate)
    ∧ (acts → v.state = .manual → v.dflt = false →
      exec (.manRelease c) s
        = .next ((s.setValve c (resting { v with man := false } .unhomed)).autoHome c).arbitrate)
    ∧ (v.dflt = true → exec (.dfltAssert c) s = .next s.arbitrate)
    ∧ (v.dflt = false → ¬acts ∨ v.state = .manual →
      exec (.dfltAssert c) s = .next (s.setValve c { v with dflt := true }).arbitrate)
    ∧ (v.dflt = false → acts → v.state ≠ .manual →
      exec (.dfltAssert c) s = .next (fault { v with dflt := true }).arbitrate)
    ∧ exec (.dfltRelease c) s = .next (s.setValve c { v with dflt := false }).arbitrate

/-- R123, R125: the end of a fault-clear pulse judges the channel and answers the request in hand: in FAULT
with DFLT deasserted it is UNHOMED without a cause and homes by its flag, answered DONE; else it is answered
NOT_READY. Placing by the lines, 2 ms after the start of work, goes channel 0 to 3 (log 35) and puts each one
with MAN asserted in MANUAL, else one with DFLT asserted in FAULT with its notice; else it is UNHOMED: one
that a request took out of UNHOMED enters it again, and auto-home acts (log 12). -/
def Obligations.PulsesAndPlacing : Prop :=
  (∀ (s : State) (c : Fin 4), s.hold = .working →
    let v := s.valve c
    let u := s.setNow (max s.now v.pulseEnd)
    let answer := fun (w : State) (h : InHand) (status : Byte) => w.setMgr { w.mgr with
      inHand := none, slot := some ⟨h.source, s.ownAddress, 0x11#8, [9#8, h.tag, status]⟩ }
    (v.clearing = false → exec (.faultClearPulseEnd c) s = .next s.arbitrate)
    ∧ (∀ h : InHand, v.clearing = true → s.mgr.inHand = some h → h.channel = c →
      (v.state = .fault → v.dflt = false →
        exec (.faultClearPulseEnd c) s = .next (answer ((u.setValve c { v with
          clearing := false, state := .unhomed, slot := .empty, target := v.position,
          cause := .none }).autoHome c) h 0#8).arbitrate)
      ∧ (v.state = .fault → v.dflt = true →
        exec (.faultClearPulseEnd c) s = .next (answer (u.setValve c { v with
          clearing := false, cause := .driveFault }) h 5#8).arbitrate)
      ∧ (v.state ≠ .fault →
        exec (.faultClearPulseEnd c) s = .next (answer (u.setValve c { v with
          clearing := false }) h 5#8).arbitrate)))
  ∧ (∀ s : State, s.hold = .working →
    (s.vdu.linesPlaced = true → exec .valveLinesPlaced s = .next s.arbitrate)
    ∧ (s.vdu.linesPlaced = false → ∃ u : State,
      exec .valveLinesPlaced s = .next u.arbitrate
      ∧ u = (List.finRange 4).foldl State.placeValve
          ((s.setNow (max s.now s.vdu.linesAt)).setVdu { s.vdu with linesPlaced := true })
      ∧ u.vdu.linesPlaced = true
      ∧ (∀ c : Fin 4, let v := s.valve c
        let resting := fun (state : ValveState) (cause : FaultCause) => { v with
          state := state, slot := .empty, target := v.position, cause := cause }
        (v.man = true → u.valve c = resting .manual .none)
        ∧ (v.man = false → v.dflt = true → u.valve c = resting .fault .driveFault)
        ∧ (v.man = false → v.dflt = false → v.state = .unhomed → u.valve c = v)
        ∧ (v.man = false → v.dflt = false → v.state ≠ .unhomed → v.config.autoHome = false →
          u.valve c = resting .unhomed v.cause))
      ∧ ((∀ c : Fin 4, (s.valve c).man = true ∨ (s.valve c).dflt = true
          ∨ (s.valve c).state = .unhomed) →
        let faults := (List.finRange 4).filter
          (fun c => !(s.valve c).man && (s.valve c).dflt)
        u = ((s.setNow (max s.now s.vdu.linesAt)).setVdu u.vdu).setNtu
          (faults.foldl (fun (n : Ntu) c => n.raise .valveFault c.val 1) s.ntu))))
  ∧ (∀ (s : State) (c : Fin 4), let v := s.valve c
    let resting := fun (state : ValveState) (cause : FaultCause) => s.setValve c { v with
      state := state, slot := .empty, target := v.position, cause := cause }
    (v.man = true → s.placeValve c = resting .manual .none)
    ∧ (v.man = false → v.dflt = true →
      s.placeValve c = (resting .fault .driveFault).raise .valveFault c.val 1)
    ∧ (v.man = false → v.dflt = false → v.state = .unhomed → s.placeValve c = s)
    ∧ (v.man = false → v.dflt = false → v.state ≠ .unhomed →
      s.placeValve c = (resting .unhomed v.cause).autoHome c))
/-! ### Management requests -/

/-- R15, R176, R182: a REQUEST is carried out at once when MGR has none in hand and its slot is empty and none
waits; else it joins the queue of 4 or is counted as an overrun. MGR takes the oldest when it is ready and
carries out the command that its body decodes to. While the part is held a REQUEST is not taken. -/
def Obligations.RequestsAreTakenInTurn : Prop :=
  (∀ (s : State) (i : Instr) (source : Byte) (body : List Byte),
    encodeRequest i = some (source, body) →
    let t : Telegram := ⟨s.ownAddress, source, 0x10#8, body⟩
    (s.hold ≠ .working → exec i s = .next s.arbitrate)
    ∧ (s.attends → exec i s = .next (s.carryOut i).arbitrate)
    ∧ (s.hold = .working → (s.mgr.inHand ≠ none ∨ s.mgr.slot ≠ none) →
      (s.mgr.queue.length < 4 →
        exec i s = .next (s.setMgr { s.mgr with queue := s.mgr.queue ++ [t] }).arbitrate)
      ∧ (4 ≤ s.mgr.queue.length →
        exec i s = .next (s.portEvent .supervisor .requestOverrun).arbitrate)))
  ∧ (∀ s : State,
    (s.mgr.inHand ≠ none ∨ s.mgr.slot ≠ none ∨ s.mgr.queue = [] → s.takeRequest = s)
    ∧ (∀ (t : Telegram) (rest : List Telegram), s.mgr.inHand = none → s.mgr.slot = none →
        s.mgr.queue = t :: rest → s.takeRequest
          = (s.setMgr { s.mgr with queue := rest }).carryOut (decodeRequest t.src t.body)))

/-- R8, R176, R177: every request carried out puts one REPLY in the slot, which echoes code and tag (00h for a
missing byte) and carries data only with DONE; a request that is not DONE changes nothing else, but for GO
(R137) and VALIDATE (R63) past the first checks. CLEAR_VALVE_FAULT of a channel in FAULT waits in hand. R177,
orders 2 and 3, R178 to R180: a request whose operands have another length than its row, or than the row of
its table, unit or heat plant part, is answered BAD_REQUEST; of the right length, an index that does not exist
is BAD_INDEX. For a heat plant part above 12 every length of some part counts as right (log 16). -/
def Obligations.RefusalsChangeNothing : Prop :=
  (∀ (s : State) (command : Request → Instr) (code : Byte) (length width n : Nat),
    (command, code, length, width, n) ∈ ([
      (.writeEntryPointRecord, 1#8, 27, 1, 256), (.writeEntryFieldPortSetting, 1#8, 3, 1, 2),
      (.writeEntrySaturationKnot, 1#8, 3, 1, 41), (.writeEntryFogConfiguration, 1#8, 3, 1, 1),
      (.writeEntryLightingLoad, 1#8, 3, 1, 256), (.writeEntryValveConfiguration, 1#8, 8, 1, 4),
      (.writeEntryProfile, 1#8, 27, 1, 8), (.writeEntryCueRecord, 1#8, 24, 1, 256),
      (.writeEntrySpanEntry, 1#8, 5, 2, 512), (.writeEntrySceneLevel, 1#8, 3, 2, 4096),
      (.writeEntryCaptureDescriptor, 1#8, 15, 1, 8), (.writeEntryNoticeLevel, 1#8, 2, 1, 18),
      (.validate, 3#8, 0, 0, 1), (.selectProfile, 5#8, 1, 1, 8), (.go, 6#8, 1, 1, 2),
      (.stop, 7#8, 1, 1, 2), (.homeValve, 8#8, 1, 1, 4), (.clearValveFault, 9#8, 1, 1, 4),
      (.enableCapture, 10#8, 1, 1, 8), (.disableCapture, 11#8, 1, 1, 8),
      (.setBoilerLimit, 12#8, 1, 0, 1), (.setAlarmThreshold, 13#8, 1, 0, 1),
      (.setRate, 14#8, 4, 1, 3), (.setSearch, 15#8, 1, 0, 1), (.clearCounts, 16#8, 1, 1, 3),
      (.clearResetCause, 17#8, 0, 0, 1), (.restart, 18#8, 0, 0, 1)]
        : List ((Request → Instr) × Byte × Nat × Nat × Nat)) →
    ∀ r : Request, let index := (r.operands.take width).foldl (fun a b => 256 * a + b.toNat) 0
      (r.operands.length ≠ length →
        s.carryOut (command r) = s.reply r.source code r.tag .badRequest [])
      ∧ (r.operands.length = length → n ≤ index →
        s.carryOut (command r) = s.reply r.source code r.tag .badIndex []))
  ∧ (∀ (s : State) (r : Request),
    let polls := fun (status : Status) =>
      s.carryOut (.writeEntryPollEntry r) = s.reply r.source 1#8 r.tag status []
    let heats := fun (status : Status) =>
      s.carryOut (.writeEntryHeatPlantPart r) = s.reply r.source 1#8 r.tag status []
    (r.operands.length ≠ 5 → polls .badRequest)
    ∧ (∀ (port slot : Byte) (rest : List Byte), r.operands = port :: slot :: rest →
      rest.length = 3 → (2 ≤ port.toNat ∨ 32 ≤ slot.toNat) → polls .badIndex)
    ∧ (r.operands = [] → heats .badRequest)
    ∧ (∀ (part : Byte) (rest : List Byte), r.operands = part :: rest →
      let bytes := if part = 0#8 then 6 else if part.toNat ≤ 4 then 2 else 4
      (part.toNat ≤ 12 → rest.length ≠ bytes → heats .badRequest)
      ∧ (12 < part.toNat → rest.length ∈ [2, 4, 6] → heats .badIndex)
      ∧ (12 < part.toNat → rest.length ∉ [2, 4, 6] → heats .badRequest)))
  ∧ (∀ (s : State) (place : Byte) (index : List Byte) (width n : Nat),
    let number := index.foldl (fun a b => 256 * a + b.toNat) 0
    let judged := fun (answer : Answer) =>
      (index.length ≠ width → answer = ⟨.badRequest, [], s⟩)
      ∧ (index.length = width → n ≤ number → answer = ⟨.badIndex, [], s⟩)
    ((place.toNat, width, n) ∈ [(0, 1, 256), (2, 1, 2), (3, 1, 41), (4, 1, 1), (5, 1, 13), (6, 1, 256),
        (7, 1, 4), (8, 1, 8), (9, 1, 256), (10, 2, 512), (11, 2, 4096), (12, 1, 8), (13, 1, 18)] →
      judged (s.readEntry (place :: index)))
    ∧ ((place.toNat, width, n) ∈ [(0, 1, 256), (2, 1, 4), (3, 1, 1), (4, 1, 13), (5, 1, 4), (6, 1, 2),
        (7, 1, 32), (8, 1, 16), (9, 1, 8), (10, 2, 4096), (11, 1, 3), (12, 1, 1)] →
      judged (s.readStatus (place :: index)))
    ∧ (place = 1#8 → ∀ answer ∈ [s.readEntry (place :: index), s.readStatus (place :: index)],
      (index.length ≠ 2 → answer = ⟨.badRequest, [], s⟩)
      ∧ (∀ port slot : Byte, index = [port, slot] → (2 ≤ port.toNat ∨ 32 ≤ slot.toNat) →
        answer = ⟨.badIndex, [], s⟩)))
  ∧ ∀ (s : State) (i : Instr) (source : Byte) (body : List Byte),
    encodeRequest i = some (source, body) →
    (∃ (u : State) (status : Status) (data : List Byte),
      s.carryOut i = u.reply source (body.getD 0 0#8) (body.getD 1 0#8) status data
      ∧ (status ≠ .done → data = [])
      ∧ (status = .badRequest ∨ status = .badIndex → u = s)
      ∧ ((∀ r : Request, i ≠ .go r ∧ i ≠ .validate r) → status ≠ .done → u = s))
    ∨ (∃ (r : Request) (c : Fin 4), i = .clearValveFault r ∧ (s.valve c).state = .fault
      ∧ (s.carryOut i).mgr = { s.mgr with inHand := some ⟨source, body.getD 1 0#8, c⟩ })

/-- R178: what WRITE_ENTRY stores, READ_ENTRY returns: when a write is answered DONE, reading the same table
at the same index then gives the very bytes written, in every table, with the additions of a profile (R158)
and of a notice level, its count, its subject and its detail in two bytes, as the record stands (R171). -/
def Obligations.WrittenFieldsReadBack : Prop :=
  ∀ (s : State) (source tag table : Byte) (index fields : List Byte), s.CuesSound →
    table.toNat ≤ 13 →
    index.length = (if table = 1#8 ∨ table = 10#8 ∨ table = 11#8 then 2 else 1) →
    let u := s.carryOut (decodeRequest source (1#8 :: tag :: table :: (index ++ fields)))
    u.mgr.slot = some ⟨source, s.ownAddress, 0x11#8, [1#8, tag, 0#8]⟩ →
    ∃ more : List Byte, u.readEntry (table :: index) = ⟨.done, fields ++ more, u⟩
      ∧ (table ≠ 8#8 → table ≠ 13#8 → more = [])
      ∧ (table = 8#8 → more = [1#8, byteOf (profileCode u.prf.active), byteOf u.prf.limit])
      ∧ (∀ i : Fin 18, table = 13#8 → index = [byteOf i.val] →
        let n := u.ntu.records[i]
        let code := (n.detail % 65536).toNat
        more = [byteOf n.count, byteOf n.subject, byteOf (code / 256), byteOf code])

/-- R21, R29, R62, R64, R85, R86, R170: the writes of settings. Each in range is stored and answered DONE; a
field out of range is answered BAD_VALUE. A knot write clears the validity flag and makes the zones UNKNOWN
when it was set, zone 0 to 3 (log 29); a constants write recomputes the effective stage at once, also when
q_stage stays as it was (R78, log 31); a level of 0 clears the source's record, and START keeps level 7.
Operands of another length and an index that does not exist stand in `RefusalsChangeNothing`. -/
def Obligations.SettingsAreWritten : Prop :=
  ∀ (s : State) (r : Request), s.attends →
    let done := fun (u : State) =>
      (Host.Outcome.next (u.reply r.source 1#8 r.tag .done []).arbitrate
        : Host.Outcome State Fault Refusal)
    let bad := (Host.Outcome.next (s.reply r.source 1#8 r.tag .badValue []).arbitrate
        : Host.Outcome State Fault Refusal)
    (∀ (g : Segment) (length flag : Byte),
        r.operands = [(match g with | .plant => 0#8 | .bowl => 1#8), length, flag] →
      (1 ≤ length.toNat → length.toNat ≤ 50 → flag.toNat ≤ 1 →
        exec (.writeEntryFieldPortSetting r) s = done (s.setField g { s.field g with
          windowLength := length.toNat, forwardUnmatched := flag == 1#8 }))
      ∧ (length.toNat = 0 ∨ 50 < length.toNat ∨ 1 < flag.toNat →
        exec (.writeEntryFieldPortSetting r) s = bad))
    ∧ (∀ (i : Fin 41) (hi lo : Byte), r.operands = [byteOf i.val, hi, lo] →
      let u := s.setFcu { s.fcu with
        knots := s.fcu.knots.set i (256 * hi.toNat + lo.toNat), valid := false }
      (s.fcu.valid = false → exec (.writeEntrySaturationKnot r) s = done u)
      ∧ (s.fcu.valid = true → exec (.writeEntrySaturationKnot r) s
          = done ((List.finRange 4).foldl (fun v z => v.setZone z { v.fcu.zones[z] with
              state := .unknown, degraded := false, lowDew := false }) u)))
    ∧ (∀ hi lo : Byte, r.operands = [0#8, hi, lo] → let n := 256 * hi.toNat + lo.toNat
      (10 ≤ n → n ≤ 600 →
        exec (.writeEntryFogConfiguration r) s = done (s.setFcu { s.fcu with dwell := n }))
      ∧ (n < 10 ∨ 600 < n → exec (.writeEntryFogConfiguration r) s = bad))
    ∧ (∀ k1 k0 q1 q0 b1 b0 : Byte, r.operands = [0#8, k1, k0, q1, q0, b1, b0] →
      let k := 256 * k1.toNat + k0.toNat
      let q := 256 * q1.toNat + q0.toNat
      let b := 256 * b1.toNat + b0.toNat
      let u := s.setHau { s.hau with k := k, qStage := q, boilerCap := b }
      let ok := 1000 ≤ k ∧ k ≤ 4500 ∧ 1 ≤ q ∧ q ≤ 2000 ∧ b ≤ 20000
      (ok → exec (.writeEntryHeatPlantPart r) s = done u.recomputeStage)
      ∧ (¬ok → exec (.writeEntryHeatPlantPart r) s = bad))
    ∧ (∀ (c : Fin 4) (hi lo : Byte), r.operands = [byteOf (1 + c.val), hi, lo] →
      let n := 256 * hi.toNat + lo.toNat
      (1 ≤ n → n ≤ 20000 → exec (.writeEntryHeatPlantPart r) s
          = done (s.setHau { s.hau with caps := s.hau.caps.set c n }))
      ∧ (n = 0 ∨ 20000 < n → exec (.writeEntryHeatPlantPart r) s = bad))
    ∧ (∀ (z : Fin 8) (g1 g0 m1 m0 : Byte), r.operands = [byteOf (5 + z.val), g1, g0, m1, m0] →
      let g := 256 * g1.toNat + g0.toNat
      let m := 256 * m1.toNat + m0.toNat
      (g ≤ 1000 → m ≤ 2000 → exec (.writeEntryHeatPlantPart r) s
          = done (s.setHau { s.hau with zones := s.hau.zones.set z ⟨g, m⟩ }))
      ∧ (1000 < g ∨ 2000 < m → exec (.writeEntryHeatPlantPart r) s = bad))
    ∧ (∀ (ch : Fin 256) (zone weight : Byte), r.operands = [byteOf ch.val, zone, weight] →
      (∀ z : Fin 8, zone.toNat = z.val → exec (.writeEntryLightingLoad r) s
          = done (s.setHau { s.hau with loads := s.hau.loads.set ch ⟨some z, weight.toNat⟩ }))
      ∧ (zone = 255#8 → exec (.writeEntryLightingLoad r) s
          = done (s.setHau { s.hau with loads := s.hau.loads.set ch ⟨none, weight.toNat⟩ }))
      ∧ (8 ≤ zone.toNat → zone ≠ 255#8 → exec (.writeEntryLightingLoad r) s = bad))
    ∧ (∀ (i : Fin 18) (level : Byte), r.operands = [byteOf i.val, level] →
      let n := { s.ntu with levels := s.ntu.levels.set i level.toNat }
      (level.toNat ≤ 7 → (i = 0 → level = 7#8) → level ≠ 0#8 →
        exec (.writeEntryNoticeLevel r) s = done (s.setNtu n))
      ∧ (level = 0#8 → i ≠ 0 → exec (.writeEntryNoticeLevel r) s
          = done (s.setNtu { n with records := s.ntu.records.set i ⟨0, 0, 0⟩ }))
      ∧ (7 < level.toNat ∨ i = 0 ∧ level ≠ 7#8 → exec (.writeEntryNoticeLevel r) s = bad))

/-- R27, R42, R43, R44, R111, R127, R128, R129, R150, R151, R160: the writes of records whose operands hold
the fields of one entry, with the range of every field. A record in range is stored whole and answered DONE;
out of range it is BAD_VALUE; IN_USE or BUSY where the owning rule refuses it. A poll entry write that empties
a slot or changes its station leaves an open window that awaits the old station without an entry to change
(R27). A point write starts the runtime afresh, a profile write sets the valid flag and, of the active
profile, raises PROFILE_CHANGE. A descriptor of Q_f with another number than R178's 0 is BAD_VALUE (log 24).
Operands of another length and an index that does not exist stand in `RefusalsChangeNothing`. -/
def Obligations.RecordsAreWritten : Prop :=
  ∀ (s : State) (r : Request), s.attends →
    let answer := fun (u : State) (status : Status) =>
      (Host.Outcome.next (u.reply r.source 1#8 r.tag status []).arbitrate
        : Host.Outcome State Fault Refusal)
    (∀ (i : Fin 256) (flag : Nat) (fields : List Nat) (c : PointConfig),
        Layout.parse (1 :: pointLayout) r.operands = some (i.val :: flag :: fields) →
        PointConfig.ofFields (flag :: fields) = some c →
      let u := (s.setPtw {
        points := s.ptw.points.set i ⟨c, ⟨none, c.fallback, .unseen, .normal, false, none, none, none,
          none, none, none, none, false⟩⟩,
        pendingOut := s.ptw.pendingOut.filter (fun j => j != i) }).sourceRewritten i
      let taken := ∃ j : Fin 256, j ≠ i ∧ (s.config j).inUse = true
        ∧ ((s.config j).station = c.station ∧ (s.config j).channel = c.channel
          ∨ c.role ≠ 0 ∧ (s.config j).role = c.role)
      let ok := c.direction ≤ 1 ∧ 1 ≤ c.station ∧ c.station ≤ 126 ∧ c.channel ≤ 255
        ∧ c.spanLow ≤ c.spanHigh ∧ c.limitLow ≤ c.limitHigh ∧ c.deadband ≤ 32767
        ∧ 1 ≤ c.staleAfter ∧ c.staleAfter ≤ 3600 ∧ c.holdTime ≤ 3600 ∧ c.forward ≤ 1
        ∧ c.overrideTime ≤ 3600 ∧ 1 ≤ c.refresh ∧ c.refresh ≤ 600
        ∧ (c.role = 0 ∨ c.direction = 0 ∧ 1 ≤ c.role ∧ c.role ≤ 27
          ∨ c.direction = 1 ∧ 28 ≤ c.role ∧ c.role ≤ 38)
      (flag = 0 → exec (.writeEntryPointRecord r) s = answer u .done)
      ∧ (flag = 1 → ok → ¬taken → exec (.writeEntryPointRecord r) s = answer u .done)
      ∧ (flag = 1 → ok → taken → exec (.writeEntryPointRecord r) s = answer s .inUse)
      ∧ (flag = 1 → ¬ok → exec (.writeEntryPointRecord r) s = answer s .badValue)
      ∧ (1 < flag → exec (.writeEntryPointRecord r) s = answer s .badValue))
    ∧ (∀ (g : Segment) (i : Fin 32) (station hi lo : Byte),
        r.operands = [(match g with | .plant => 0#8 | .bowl => 1#8), byteOf i.val, station, hi, lo] →
      let interval := 256 * hi.toNat + lo.toNat
      let old := (s.field g).polls[i].station
      let left := fun (f : FieldPort) => { f with window := f.window.map (fun w =>
        if old ≠ 0 ∧ old ≠ station.toNat ∧ w.awaited.map BitVec.toNat = some old then
          { w with entryGone := true } else w) }
      let v := (s.setPlant (left s.plant)).setBowl (left s.bowl)
      let u := v.setField g { v.field g with
        polls := (s.field g).polls.set i ⟨station.toNat, interval, .unpolled, 0, none⟩ }
      let ok := station.toNat ≤ 126 ∧ 1 ≤ interval ∧ interval ≤ 600
      let taken := ∃ (h : Segment) (j : Fin 32), ¬(h = g ∧ j = i)
        ∧ (s.field h).polls[j].station = station.toNat
      (station = 0#8 → exec (.writeEntryPollEntry r) s = answer u .done)
      ∧ (station ≠ 0#8 → ok → ¬taken → exec (.writeEntryPollEntry r) s = answer u .done)
      ∧ (station ≠ 0#8 → ok → taken → exec (.writeEntryPollEntry r) s = answer s .inUse)
      ∧ (station ≠ 0#8 → ¬ok → exec (.writeEntryPollEntry r) s = answer s .badValue))
    ∧ (∀ (c : Fin 4) (t1 t0 period settle seat home notify : Byte),
        r.operands = [byteOf c.val, t1, t0, period, settle, seat, home, notify] →
      let v := s.valve c
      let travel := 256 * t1.toNat + t0.toNat
      let moved := min v.position travel
      let u := s.setValve c { v with
        config := ⟨travel, period.toNat, settle.toNat, seat.toNat, home == 1#8, notify == 1#8⟩,
        position := moved, target := min v.target travel }
      let ok := 16 ≤ travel ∧ travel ≤ 4000 ∧ 2 ≤ period.toNat ∧ home.toNat ≤ 1 ∧ notify.toNat ≤ 1
      let busy := v.state.isHoming = true ∨ v.state = .seeking ∨ v.state = .settling
      (ok → ¬busy → moved = v.position →
        exec (.writeEntryValveConfiguration r) s = answer (u.autoHome c) .done)
      ∧ (ok → ¬busy → moved ≠ v.position → exec (.writeEntryValveConfiguration r) s
          = answer ((u.sample (.position c) moved .clamped).autoHome c) .done)
      ∧ (ok → busy → exec (.writeEntryValveConfiguration r) s = answer s .busy)
      ∧ (¬ok → exec (.writeEntryValveConfiguration r) s = answer s .badValue))
    ∧ (∀ (i : Fin 8) (fields : List Nat) (p : Profile),
        Layout.parse (1 :: profileLayout) r.operands = some (i.val :: fields) →
        Profile.ofFields fields = some p →
      let u := s.setPrf { s.prf with profiles := s.prf.profiles.set i p }
      let ok := -2000 ≤ p.subfloorSetpoint ∧ p.subfloorSetpoint ≤ 2000 ∧ p.subfloorHeat ≤ 20000
        ∧ -500 ≤ p.warn ∧ p.warn ≤ 1000 ∧ -500 ≤ p.act ∧ p.act ≤ 1000 ∧ -500 ≤ p.fog ∧ p.fog ≤ 1000
        ∧ 0 ≤ p.hysteresis ∧ p.hysteresis ≤ 500 ∧ 1 ≤ p.actStage ∧ p.actStage ≤ 4 ∧ p.stageCap ≤ 4
        ∧ p.blindStage ≤ 4 ∧ p.occupied ≤ 3000 ∧ p.unoccupied ≤ 3000 ∧ p.mask ≤ 255
        ∧ p.boilerLevel ≤ 2 ∧ p.meltEnable ≤ 1 ∧ p.meltHeat ≤ 20000 ∧ p.startCue ≤ 255
        ∧ p.autoGo ≤ 1 ∧ p.act < p.warn ∧ p.fog < p.act ∧ p.actStage ≤ p.stageCap
      p.valid = true
      ∧ (ok → s.prf.active ≠ some i →
        exec (.writeEntryProfile r) s = answer u .done)
      ∧ (ok → s.prf.active = some i → exec (.writeEntryProfile r) s
          = answer (u.raise .profileChange i.val ((768 + i.val : Nat) : Int)) .done)
      ∧ (¬ok → exec (.writeEntryProfile r) s = answer s .badValue))
    ∧ (∀ (i : Fin 256) (fields : List Nat) (c : CueRecord),
        Layout.parse (1 :: cueLayout) r.operands = some (i.val :: fields) →
        CueRecord.ofFields fields = some c →
      let runs := fun (p : Playback) => p.current = some i ∧ (p.state = .fading ∨ p.state = .held)
      let used := runs s.cue.playbackShow ∨ runs s.cue.playbackHouse
      let ok := c.next ≤ 255 ∧ c.holdAfter ≤ 1 ∧ c.notify ≤ 1 ∧ c.parkEnable ≤ 1 ∧ c.parkValue ≤ 255
        ∧ c.fade ≤ 255
        ∧ (c.form = 0 ∧ c.start ≤ 255 ∧ 1 ≤ c.width ∧ c.width ≤ 256 ∧ c.repeats ≤ 15
            ∧ 1 ≤ c.stride ∧ c.stride ≤ 255
          ∨ (c.form = 1 ∨ c.form = 2) ∧ c.base ≤ 255 ∧ c.spanIndex ≤ 511 ∧ 1 ≤ c.spanCount
            ∧ c.spanCount ≤ 64)
        ∧ (c.source = 0 ∧ c.flat ≤ 255 ∨ c.source = 1 ∧ c.sceneIndex ≤ 4095)
        ∧ (c.update = 0 ∨ c.update = 1 ∧ -128 ≤ c.step ∧ c.step ≤ 127
          ∨ c.update = 2 ∧ -127 ≤ c.step ∧ c.step ≤ 127)
      (ok → ¬used → exec (.writeEntryCueRecord r) s
          = answer (s.setCue { s.cue with cues := s.cue.cues.set i c }) .done)
      ∧ (ok → used → exec (.writeEntryCueRecord r) s = answer s .inUse)
      ∧ (¬ok → exec (.writeEntryCueRecord r) s = answer s .badValue))
    ∧ (∀ (a : Fin 512) (offset hi lo : Byte),
        r.operands = [byteOf (a.val / 256), byteOf a.val, offset, hi, lo] → s.CuesSound →
      let width := 256 * hi.toNat + lo.toNat
      (1 ≤ width → width ≤ 256 → ∃ u : State,
        exec (.writeEntrySpanEntry r) s = answer u .done
        ∧ u = s.setCue { s.cue with spans := u.cue.spans }
        ∧ ∀ b : Nat, u.cue.span b = if b = a.val then ⟨offset.toNat, width⟩ else s.cue.span b)
      ∧ (width = 0 ∨ 256 < width → exec (.writeEntrySpanEntry r) s = answer s .badValue))
    ∧ (∀ (a : Fin 4096) (level : Byte),
        r.operands = [byteOf (a.val / 256), byteOf a.val, level] → s.CuesSound → ∃ u : State,
      exec (.writeEntrySceneLevel r) s = answer u .done
      ∧ u = s.setCue { s.cue with scenes := u.cue.scenes }
      ∧ ∀ b : Nat, u.cue.scene b = if b = a.val then level.toNat else s.cue.scene b)
    ∧ (∀ (i : Fin 8) (fields : List Nat) (d : Descriptor),
        Layout.parse (1 :: descriptorLayout) r.operands = some (i.val :: fields) →
        Descriptor.ofFields fields = some d →
      let active := s.tcu.channels[i].state = .armed ∨ s.tcu.channels[i].state = .running
      let ok := (d.sourceKind = 0 ∧ d.sourceNumber ≤ 255 ∨ d.sourceKind = 3 ∧ d.sourceNumber = 0
          ∨ (d.sourceKind = 1 ∨ d.sourceKind = 2 ∨ d.sourceKind = 4 ∨ d.sourceKind = 5)
            ∧ d.sourceNumber ≤ 3)
        ∧ d.base ≤ 4095 ∧ 1 ≤ d.length ∧ d.length ≤ 4096 ∧ d.base + d.length ≤ 4096 ∧ 1 ≤ d.count
        ∧ d.count ≤ 4096 ∧ d.pointerMode ≤ 1 ∧ d.notify ≤ 1
        ∧ (d.mode = 0 ∧ d.stopOnAlarm ≤ 1 ∨ d.mode = 1 ∧ d.count ≤ d.length
          ∧ (d.triggerKind = 0 ∧ d.triggerNumber ≤ 255 ∨ d.triggerKind = 1 ∧ d.triggerNumber ≤ 3))
      (ok → ¬active → exec (.writeEntryCaptureDescriptor r) s
          = answer (s.setTcu { s.tcu with
              channels := s.tcu.channels.set i ⟨d, .off, d.base, 0, 0, none, .none⟩ }) .done)
      ∧ (ok → active → exec (.writeEntryCaptureDescriptor r) s = answer s .inUse)
      ∧ (¬ok → exec (.writeEntryCaptureDescriptor r) s = answer s .badValue))

/-- R8, R178, R180: reads and unknown requests. READ_ENTRY and READ_STATUS answer without changing any field,
and the data of every unit of READ_STATUS is R180's, field by field: a point, a polled station, a fog zone,
the fog unit, the parts of the allocation result, a valve channel, a playback, levels, a lighting block, a
capture channel, trend memory, a port, and the reset cause with the station. An unknown request is answered
BAD_REQUEST, with 00h for a missing code or tag. The model's choices in these bytes: values of flags (log 14)
and lines (log 15), what is left of an override (log 17), an output's reported value (log 18), the codes of
loop status, fault cause and playback state (log 23), whole seconds from whole milliseconds (log 36). -/
def Obligations.ReadsReportWithoutChange : Prop :=
  (∀ (s : State) (r : Request), s.attends →
    let e := s.readEntry r.operands
    let x := s.readStatus r.operands
    e.state = s ∧ x.state = s
    ∧ exec (.readEntry r) s = .next (s.reply r.source 2#8 r.tag e.status e.data).arbitrate
    ∧ exec (.readStatus r) s = .next (s.reply r.source 4#8 r.tag x.status x.data).arbitrate)
  ∧ (∀ (s : State) (source : Byte) (body : List Byte), s.attends →
    exec (.unknownRequest source body) s = .next (s.reply source (body.getD 0 0#8) (body.getD 1 0#8)
      .badRequest []).arbitrate)
  ∧ (∀ s : State, let flag := fun (b : Bool) => if b = true then 1#8 else 0#8
    let reports := fun (unit : Byte) (index data : List Byte) =>
      s.readStatus (unit :: index) = ⟨.done, data, s⟩
    let point := fun (v : Option Int) => match v with
      | some v => 1#8 :: bytesSigned v
      | none => [0#8, 0#8, 0#8]
    let sinceMilli := fun (t : Option Nat) => bytes16 (match t with
      | some t => min 65535 ((s.now / 16000 - t) / 1000)
      | none => 65535)
    let since := fun (t : Option Nat) => bytes16 (match t with
      | some t => min 65535 ((s.now - t) / seconds 1)
      | none => 65535)
    (∀ i : Fin 256, let c := s.config i; let r := s.runtime i
      (c.inUse = false → reports 0#8 [byteOf i.val] [0#8])
      ∧ (c.inUse = true → reports 0#8 [byteOf i.val] ([1#8,
          (match r.watch with | .unseen => 0#8 | .live => 1#8 | .stale => 2#8 | .lost => 3#8),
          (match r.limit with | .normal => 0#8 | .low => 1#8 | .high => 2#8), flag r.clamped]
        ++ bytesSigned (r.raw.getD 0)
        ++ bytesSigned (if c.direction = 0 then r.seen else r.toSend.getD 0)
        ++ sinceMilli r.lastArrival ++ [flag r.overrideAt.isSome] ++ point r.autoValue
        ++ point r.toSend ++ point r.lastSent ++ sinceMilli r.lastSending
        ++ bytes16 (match r.overrideAt with
          | some t => (t - s.now / 16000) / 1000
          | none => 0) ++ [flag r.pendingFlag])))
    ∧ (∀ (g : Segment) (i : Fin 32), let e := (s.field g).polls[i]
      reports 1#8 [match g with | .plant => 0#8 | .bowl => 1#8, byteOf i.val] ([byteOf e.station,
          (match e.state with | .unpolled => 0#8 | .answering => 1#8 | .silent => 2#8)]
        ++ bytes16 e.misses ++ since e.lastPoll))
    ∧ (∀ z : Fin 4, let x := s.fcu.zones[z]
      reports 2#8 [byteOf z.val] ([(match x.state with
          | .unknown => 0#8 | .clear => 1#8 | .watch => 2#8 | .act => 3#8 | .fog => 4#8),
          flag x.degraded, flag x.lowDew]
        ++ bytesSigned x.airT ++ bytesSigned x.rh ++ bytesSigned x.iceT ++ bytes16 x.satPressure
        ++ bytes16 x.pressure ++ bytesSigned x.dewPoint ++ bytesSigned x.margin
        ++ [byteOf x.demand]))
    ∧ reports 3#8 [0#8] ([flag s.fcu.valid, byteOf s.fcu.stage, byteOf s.fcu.demand,
        byteOf s.fcu.effective, flag s.fcu.starved, byteOf s.fcu.fields.stageCap]
      ++ since s.fcu.lastChange
      ++ [match s.fcu.fan with | some n => byteOf n | none => 255#8])
    ∧ (let r := s.hau.result
      reports 4#8 [0#8] (bytes16 r.heat ++ [flag r.clamped,
          (match r.loop with | .complete => 0#8 | .degraded => 1#8 | .unassigned => 2#8)]
        ++ bytes16 r.budget ++ [byteOf r.level] ++ bytes16 r.boilerCommand ++ bytes16 r.boilerCap
        ++ bytes16 r.rejected ++ [flag r.short, flag r.call, flag r.subfloorDegraded])
      ∧ (∀ c : Fin 4, let x := r.classes[c]
        reports 4#8 [byteOf (1 + c.val)] (bytes16 x.demand ++ [flag x.inService] ++ bytes16 x.grant
          ++ bytes16 x.topUp ++ bytes16 x.target))
      ∧ (∀ z : Fin 8, let x := r.zones[z]
        reports 4#8 [byteOf (5 + z.val)] ([flag x.takesPart, flag x.degraded] ++ bytes16 x.gain
          ++ bytes16 x.demand ++ bytes16 x.grant ++ bytes16 x.output)))
    ∧ (∀ c : Fin 4, let v := s.valve c
      let moving := v.state.isHoming || v.state == .seeking || v.state == .settling
      reports 5#8 [byteOf c.val] ([(match v.state with
          | .unhomed => 0#8 | .homing _ => 1#8 | .ready => 2#8 | .seeking => 3#8 | .settling => 4#8
          | .manual => 5#8 | .fault => 6#8)] ++ bytes16 v.position ++ bytes16 v.target
        ++ (match v.slot with
          | .empty => [0#8, 0#8, 0#8] | .home => [2#8, 0#8, 0#8] | .target t => 1#8 :: bytes16 t)
        ++ [flag (!v.toOpen)] ++ bytes16 v.remaining ++ bytes16 v.searchCount
        ++ [(match v.cause with | .none => 0#8 | .driveFault => 1#8 | .homeNotFound => 2#8),
            flag v.clearing, flag moving, flag v.clearing, flag v.closed, flag v.man, flag v.dflt]))
    ∧ (∀ b : PlaybackId, let p := s.playback b
      reports 6#8 [match b with | .showPlayback => 0#8 | .housePlayback => 1#8] ([(match p.state with
          | .idle => 0#8 | .fading => 1#8 | .held => 2#8 | .fault => 3#8), byteOf p.pointer.val]
        ++ bytes16 (match p.current with | some i => i.val | none => 65535)
        ++ bytes16 p.fade.count ++ bytes16 p.fade.length
        ++ bytes16 (p.fade.channels.toList.countP Option.isSome)))
    ∧ (∀ (b : PlaybackId) (block : Fin 16),
      reports 7#8 [byteOf (16 * (match b with | .showPlayback => 0 | .housePlayback => 1) + block.val)]
        ((List.finRange 16).map (fun j => byteOf (s.playback b).levels[blockChannel block j])))
    ∧ (∀ block : Fin 16, reports 8#8 [byteOf block.val]
        ((List.finRange 16).map (fun j => byteOf s.cue.levelMap[blockChannel block j])
          ++ [flag s.cue.due[block]]))
    ∧ (∀ i : Fin 8, let c := s.tcu.channels[i]
      reports 9#8 [byteOf i.val] ([(match c.state with
          | .off => 0#8 | .armed => 1#8 | .running => 2#8 | .ended => 3#8)] ++ bytes16 c.pointer
        ++ bytes16 c.remaining ++ bytes16 c.stored
        ++ (match c.triggerAt with | some n => bytes16 n | none => [255#8, 255#8])
        ++ [byteOf c.status.code]))
    ∧ (∀ a : Fin 4096, reports 10#8 [byteOf (a.val / 256), byteOf a.val]
        ((List.range (min 12 (4096 - a.val))).map (fun j =>
            bytesSigned (s.tcu.sampleAt (a.val + j)).value
              ++ [byteOf (s.tcu.sampleAt (a.val + j)).quality.code])).flatten)
    ∧ (∀ p : Port, let l := s.line p; let c := l.counts; let link := s.supervisor
      reports 11#8 [match p with | .plant => 0#8 | .bowl => 1#8 | .supervisor => 2#8]
        (bytes16 c.framing ++ bytes16 c.truncated ++ bytes16 c.length ++ bytes16 c.gap
          ++ bytes16 c.check ++ bytes16 c.overrun ++ bytes16 c.requestOverrun ++ bytes16 c.unroutable
          ++ bytes16 c.relayDrop ++ [flag c.overrunFlag] ++ bytes16 l.divisor
          ++ (match p with
            | .supervisor => [byteOf link.index.val, flag link.search, byteOf link.fails]
            | _ => [])))
    ∧ reports 12#8 [0#8] [flag s.mgr.power, flag s.mgr.lineFlag, flag s.mgr.supervisorFlag,
        byteOf s.mgr.address])

/-- R63: VALIDATE passes the table when P[0] is at least 1 and each knot is greater than the one before; it
then sets the validity flag and is answered DONE, else it leaves the flag clear and is answered BAD_VALUE.
Knots and zones are left as they are. While the flag is set the table passes: every step keeps it so, and a
passing table has every knot from 1 to 65535 and every interval at least 1. A zone that is UNKNOWN only
because of the table leaves UNKNOWN at the next evaluation. -/
def Obligations.ValidateJudgesTheTable : Prop :=
  (∀ (s : State) (r : Request), s.attends → r.operands = [] →
    let passes := 1 ≤ s.fcu.knot 0 ∧ ∀ i : Nat, i < 40 → s.fcu.knot i < s.fcu.knot (i + 1)
    (passes → exec (.validate r) s
        = .next ((s.setFcu { s.fcu with valid := true }).reply r.source 3#8 r.tag .done []).arbitrate)
    ∧ (¬passes → exec (.validate r) s
        = .next ((s.setFcu { s.fcu with valid := false }).reply r.source 3#8 r.tag .badValue
          []).arbitrate))
  ∧ (∀ s t : State, (∀ i : Fin 41, s.fcu.knots[i] ≤ 65535) →
      (s.fcu.valid = true → s.fcu.tableOk = true) → step s = .next t →
      (∀ i : Fin 41, t.fcu.knots[i] ≤ 65535) ∧ (t.fcu.valid = true → t.fcu.tableOk = true))
  ∧ (∀ f : Fcu, f.tableOk = true → (∀ i : Fin 41, 1 ≤ f.knots[i])
      ∧ ∀ i : Nat, i < 40 → 1 ≤ f.knot (i + 1) - f.knot i)
  ∧ (∀ (s t : State) (z : Fin 4), s.hold = .working → s.fcu.valid = true → s.fogInputs z ≠ none →
      exec .fogEvaluation s = .next t → t.fcu.zones[z].state ≠ .unknown)

/-- R137, R138, R141, R153, R154: GO, STOP and SELECT_PROFILE. GO completes a FADING playback's cue or starts
the cue at the pointer, and is answered NOT_READY when the playback is in FAULT after it; STOP puts the
playback IDLE with levels 0, its pointer kept; a valid profile is selected, PROFILE_CHANGE is raised, and SHOW
is repositioned; an invalid one is NOT_READY. A GO of a trigger point (R58) does the same to its playback.
R136, R141: a cue that completes under a repositioning ends HELD, with its targets, its write-back, its
pointer at the next cue and its CUE_DONE, but without a follow-on. -/
def Obligations.PlaybacksAndProfilesObey : Prop :=
  (∀ (s : State) (r : Request) (b : PlaybackId), s.attends →
      r.operands = [match b with | .showPlayback => 0#8 | .housePlayback => 1#8] →
    let u := if (s.playback b).state = .fading then s.completeCue b else s.startCue b
    exec (.go r) s = .next (u.reply r.source 6#8 r.tag
        (if (u.playback b).state = .fault then .notReady else .done) []).arbitrate
    ∧ exec (.stop r) s = .next ((s.setPlayback b {
        state := .idle, pointer := (s.playback b).pointer, current := none, levels := .replicate 256 0,
        fade := ⟨.replicate 256 none, 0, 0⟩ }).reply r.source 7#8 r.tag .done []).arbitrate)
  ∧ (∀ (s : State) (r : Request) (k : Fin 8), s.attends → r.operands = [byteOf k.val] →
    (s.prf.profiles[k].valid = true → exec (.selectProfile r) s
        = .next ((s.takeSelection k 1).reply r.source 5#8 r.tag .done []).arbitrate)
    ∧ (s.prf.profiles[k].valid = false → exec (.selectProfile r) s
        = .next (s.reply r.source 5#8 r.tag .notReady []).arbitrate))
  ∧ (∀ (s : State) (k : Fin 8) (cause : Nat), let p := s.prf.profiles[k]
    s.takeSelection k cause = ((s.setPrf { s.prf with active := some k }).raise .profileChange k.val
      ((256 * cause + (match s.prf.active with | some i => i.val | none => 255) : Nat) : Int)
      ).repositionShow (Fin.ofNat 256 p.startCue) (p.autoGo == 1))
  ∧ (∀ (s : State) (b : PlaybackId), s.goPlayback b
      = if (s.playback b).state = .fading then s.completeCue b else s.startCue b)
  ∧ (∀ (s : State) (b : PlaybackId) (i : Fin 256), let p := s.playback b
    let c := s.cue.cues[i]
    let held := s.setCue (({ s.cue with cues := s.cue.cues.set i c.writeBack }).setPlayback b {
      state := .held, pointer := Fin.ofNat 256 c.next, current := some i,
      levels := tabulate 256 (fun ch => match p.fade.channels[ch] with
        | some x => x.2
        | none => p.levels[ch]),
      fade := ⟨.replicate 256 none, 0, 0⟩ })
    (c.notify = 1 → s.completeHeld b i = held.raise .cueDone i.val
      (match b with | .showPlayback => 0 | .housePlayback => 1))
    ∧ (c.notify ≠ 1 → s.completeHeld b i = held))
  ∧ (∀ (s : State) (cue : Fin 256), let p := s.playback .showPlayback
    let v := match p.state, p.current with
      | .fading, some i => s.completeHeld .showPlayback i
      | _, _ => s
    let w := v.setPlayback .showPlayback { v.playback .showPlayback with pointer := cue }
    s.repositionShow cue true = w.goPlayback .showPlayback
    ∧ ((v.playback .showPlayback).state = .fault → s.repositionShow cue false
        = v.setPlayback .showPlayback { v.playback .showPlayback with
            pointer := cue, state := .held, current := none })
    ∧ ((v.playback .showPlayback).state ≠ .fault → s.repositionShow cue false = w))

/-- R116, R123, R163, R167: HOME_VALVE, CLEAR_VALVE_FAULT, ENABLE_CAPTURE and DISABLE_CAPTURE, by the state of
the channel they name. ENABLE_CAPTURE is NOT_READY for a channel that is ARMED or RUNNING, for a length of 0,
and for a point, as source or as trigger of a RING channel, that is not in use; and IN_USE when the region
shares a place with that of another channel that is ARMED or RUNNING. -/
def Obligations.ValvesAndCapturesObey : Prop :=
  (∀ (s : State) (r : Request) (c : Fin 4), s.attends → r.operands = [byteOf c.val] →
    let v := s.valve c
    let homes := fun (u : State) (status : Status) =>
      exec (.homeValve r) s = .next (u.reply r.source 8#8 r.tag status []).arbitrate
    (v.state = .ready ∨ v.state = .unhomed → homes (s.startHome c) .done)
    ∧ (v.state = .seeking ∨ v.state = .settling →
      homes (s.setValve c { v with slot := .home }) .done)
    ∧ (v.state.isHoming = true → homes s .busy)
    ∧ (v.state = .manual ∨ v.state = .fault → homes s .notReady)
    ∧ (v.state = .fault → exec (.clearValveFault r) s
        = .next ((s.setValve c { v with clearing := true, pulseEnd := s.now + millis 10 }).setMgr
          { s.mgr with inHand := some ⟨r.source, r.tag, c⟩ }).arbitrate)
    ∧ (v.state ≠ .fault → exec (.clearValveFault r) s
        = .next (s.reply r.source 9#8 r.tag .notReady []).arbitrate))
  ∧ (∀ (s : State) (r : Request) (i : Fin 8), s.attends → r.operands = [byteOf i.val] →
    let c := s.tcu.channels[i]
    let d := c.descriptor
    let enables := fun (u : State) (status : Status) =>
      exec (.enableCapture r) s = .next (u.reply r.source 10#8 r.tag status []).arbitrate
    let active := fun (x : CaptureChannel) => x.state = .armed ∨ x.state = .running
    let used := fun (n : Nat) => ∃ p : Fin 256, p.val = n ∧ (s.config p).inUse = true
    let usable := ¬active c ∧ d.length ≠ 0 ∧ (d.sourceKind = 0 → used d.sourceNumber)
      ∧ (d.mode = 1 → d.triggerKind = 0 → used d.triggerNumber)
    let overlaps := ∃ j : Fin 8, j ≠ i ∧ active s.tcu.channels[j]
      ∧ (let e := s.tcu.channels[j].descriptor
        d.base < e.base + e.length ∧ e.base < d.base + d.length)
    (usable → ¬overlaps → enables (s.setTcu { s.tcu with channels := s.tcu.channels.set i { c with
        state := if d.mode = 1 then .armed else .running, pointer := d.base, stored := 0,
        remaining := if d.mode = 1 then 0 else d.count, triggerAt := none, status := .none } }) .done)
    ∧ (usable → overlaps → enables s .inUse)
    ∧ (¬usable → enables s .notReady)
    ∧ (let ended := s.setTcu { s.tcu with channels := s.tcu.channels.set i { c with
          state := .ended, status := .disabled } }
      exec (.disableCapture r) s = .next ((if ¬active c then s
        else if d.notify = 1 then ended.raise .captureEnd i.val 6 else ended).reply r.source 11#8 r.tag
          .done []).arbitrate))

/-- R156: SET_BOILER_LIMIT stores a value from 0 to 2 at once and is answered DONE, whether or not it differs;
any other value is BAD_VALUE and the limit is left. Nothing else changes, so no notice is raised. Selections
and profile writes leave the limit, which applies to whichever profile is active. -/
def Obligations.BoilerLimitIsStored : Prop :=
  (∀ (s : State) (r : Request) (limit : Byte), s.attends → r.operands = [limit] →
    (limit.toNat ≤ 2 → exec (.setBoilerLimit r) s = .next ((s.setPrf { s.prf with
        limit := limit.toNat }).reply r.source 12#8 r.tag .done []).arbitrate)
    ∧ (2 < limit.toNat → exec (.setBoilerLimit r) s
        = .next (s.reply r.source 12#8 r.tag .badValue []).arbitrate))
  ∧ (∀ (s : State) (k : Fin 8) (cause : Nat) (p : Profile),
    (s.takeSelection k cause).prf.limit = s.prf.limit
    ∧ (s.storeProfile k p).prf.limit = s.prf.limit
    ∧ (s.prf.active = some k →
      s.heatFields.level = min s.prf.profiles[k].boilerLevel s.prf.limit))

/-- R16, R18, R20, R174, R179: SET_ALARM_THRESHOLD, SET_RATE, SET_SEARCH and CLEAR_COUNTS. A divisor of a
field port applies at once when its transmitter is IDLE, else at the end of the transmission; on the
supervisor link it is written into the rate list, and applies from the end of the REPLY when it is the entry
at the search index. A quiet port stays quiet when its character time grows (log 27). -/
def Obligations.PortsAndThresholdObey : Prop :=
  (∀ (s : State) (r : Request) (b : Byte), s.attends → r.operands = [b] →
    (1 ≤ b.toNat → b.toNat ≤ 7 → exec (.setAlarmThreshold r) s = .next ((s.setNtu { s.ntu with
        threshold := b.toNat }).reply r.source 13#8 r.tag .done []).arbitrate)
    ∧ (b.toNat = 0 ∨ 7 < b.toNat → exec (.setAlarmThreshold r) s
        = .next (s.reply r.source 13#8 r.tag .badValue []).arbitrate)
    ∧ (b.toNat ≤ 1 → exec (.setSearch r) s = .next ((s.setSupervisor { s.supervisor with
        search := b == 1#8, fails := 0 }).reply r.source 15#8 r.tag .done []).arbitrate)
    ∧ (1 < b.toNat → exec (.setSearch r) s
        = .next (s.reply r.source 15#8 r.tag .badValue []).arbitrate)
    ∧ (∀ p : Port, b = (match p with | .plant => 0#8 | .bowl => 1#8 | .supervisor => 2#8) →
      exec (.clearCounts r) s = .next ((s.setLine p { s.line p with
        counts := ⟨0, 0, 0, 0, 0, 0, 0, 0, 0, false⟩ }).reply r.source 16#8 r.tag .done []).arbitrate)
    ∧ (3 ≤ b.toNat → exec (.clearCounts r) s
        = .next (s.reply r.source 16#8 r.tag .badIndex []).arbitrate))
  ∧ (∀ (s : State) (r : Request) (port entry hi lo : Byte), s.attends →
      r.operands = [port, entry, hi, lo] →
    let n := 256 * hi.toNat + lo.toNat
    let answer := fun (u : State) (status : Status) =>
      exec (.setRate r) s = .next (u.reply r.source 14#8 r.tag status []).arbitrate
    let p := s.supervisor
    (2 < port.toNat ∨ 3 < entry.toNat ∨ port.toNat < 2 ∧ entry ≠ 0#8 → answer s .badIndex)
    ∧ (port.toNat ≤ 2 → (entry = 0#8 ∨ port = 2#8 ∧ entry.toNat ≤ 3) → 4095 < n →
      answer s .badValue)
    ∧ (∀ g : Segment, port = (match g with | .plant => 0#8 | .bowl => 1#8) → entry = 0#8 →
        n ≤ 4095 → let f := s.field g
      (f.line.sending = none → answer (s.setField g { f with newDivisor := none, line := { f.line with
          divisor := n, receiver := .hunt, lookFrom := s.now } }) .done)
      ∧ (f.line.sending ≠ none → answer (s.setField g { f with newDivisor := some n }) .done))
    ∧ (∀ i : Fin 4, port = 2#8 → entry = byteOf i.val → n ≤ 4095 →
      answer (s.setSupervisor { p with
        rateList := p.rateList.set i n,
        rateAtReply := if i = p.index then true else p.rateAtReply }) .done))
/-! ### Resets -/

/-- R183: the reset-cause record. A power-on reset sets POWER and clears LINE and SUPERVISOR, a line reset
sets LINE and a supervisor reset SUPERVISOR, each keeping the other flags as they stood; CLEAR_RESET_CAUSE
clears all three and is answered DONE. A power-on and then a line reset leave POWER and LINE. -/
def Obligations.ResetCauseIsRecorded : Prop :=
  (∀ s t : State, exec .powerOn s = .next t →
    t.mgr.power = true ∧ t.mgr.lineFlag = false ∧ t.mgr.supervisorFlag = false)
  ∧ (∀ s t : State, s.hold = .working → exec .lineReset s = .next t →
    t.mgr.power = s.mgr.power ∧ t.mgr.lineFlag = true
    ∧ t.mgr.supervisorFlag = s.mgr.supervisorFlag)
  ∧ (∀ (s t : State) (x : Sending), s.hold = .working → s.supervisor.line.sending = some x →
      x.kind = .reply → s.mgr.restarting = true →
      exec (.transmissionEnd .supervisor) s = .next t →
    t.mgr.power = s.mgr.power ∧ t.mgr.lineFlag = s.mgr.lineFlag ∧ t.mgr.supervisorFlag = true)
  ∧ (∀ (s : State) (r : Request), s.attends → r.operands = [] →
    exec (.clearResetCause r) s = .next ((s.setMgr { s.mgr with
      power := false, lineFlag := false, supervisorFlag := false }).reply r.source 17#8 r.tag .done
        []).arbitrate)
  ∧ (∀ (s t u v : State) (straps : BitVec 7), exec .powerOn s = .next t →
      exec (.workStart straps) t = .next u → exec .lineReset u = .next v →
    v.mgr.power = true ∧ v.mgr.lineFlag = true ∧ v.mgr.supervisorFlag = false)

/-- R19, R39, R60, R61, R84, R109, R125, R126, R148, R149, R159, R169, R175, R181, R182, R184, R185: what the
resets leave and how work starts. A power-on holds the part with the power-on values; a line reset holds it,
keeps the tables and clears ports, queues, runtime and captures; RESTART is answered DONE and marked; at the
end of the hold the straps are read, START is raised and every timer runs from that moment. The supervisor
reset, taken at the end of RESTART's REPLY, keeps the part at work, its divisors, counts, rate list, search
index and search setting, and sets the rest of ports, queues, runtime and captures like a line reset; its
timers run from that moment, and the lines of the valve channels are read, channel 0 to 3 (log 35). A cue that
is FADING at either reset completes with its write-back (`CuesStartAndComplete` says what that is). The flags
of the allocation result after a reset are log 21's. A reset within the filter time of power-on stands for the
placing (log 32). -/
def Obligations.ResetsAndWorkStart : Prop :=
  let writtenBack := fun (s : State) =>
    let back := fun (v : Vector CueRecord 256) (b : PlaybackId) =>
      match (s.playback b).state, (s.playback b).current with
      | .fading, some i => v.set i v[i].writeBack
      | _, _ => v
    back (back s.cue.cues .showPlayback) .housePlayback
  (∀ s : State, ∃ t : State, exec .powerOn s = .next t ∧ t.hold = .powerOn
    ∧ t = { State.reset with
        now := s.now, races := s.races, pending := s.pending, vdu := t.vdu }
    ∧ t.vdu.linesPlaced = false
    ∧ (∀ c : Fin 4, t.valve c = {
        config := ⟨16, 20, 0, 0, false, false⟩, state := .unhomed, position := 0, target := 0,
        slot := .empty, toOpen := false, remaining := 0, searchCount := 0,
        cause := .none, clearing := false, stepEnd := 0, pulseEnd := 0, closed := (s.valve c).closed,
        man := (s.valve c).man, dflt := (s.valve c).dflt }))
  ∧ (∀ s : State, (s.hold ≠ .working → exec .lineReset s = .next s.arbitrate)
    ∧ (s.hold = .working → ∃ t : State, exec .lineReset s = .next t ∧ t.hold = .lineReset
      ∧ t.now = s.now ∧ t.ntu.alm = false
      ∧ (∀ g : Segment, let f := t.field g
        f.line.divisor = 3 ∧ f.line.receiver = .hunt ∧ f.line.sending = none
        ∧ f.line.counts = ⟨0, 0, 0, 0, 0, 0, 0, 0, 0, false⟩ ∧ f.newDivisor = none
        ∧ f.quiet = false ∧ f.window = none ∧ f.relayDown = [] ∧ f.nonPoll = 0
        ∧ f.windowLength = (s.field g).windowLength
        ∧ f.forwardUnmatched = (s.field g).forwardUnmatched
        ∧ ∀ i : Fin 32, f.polls[i] = { (s.field g).polls[i] with
            state := .unpolled, misses := 0, lastPoll := none })
      ∧ t.supervisor.line.divisor = 7 ∧ t.supervisor.line.receiver = .hunt
      ∧ t.supervisor.line.sending = none
      ∧ t.supervisor.line.counts = ⟨0, 0, 0, 0, 0, 0, 0, 0, 0, false⟩
      ∧ t.supervisor.rateList = #v[7, 3, 25, 103] ∧ t.supervisor.index = 0
      ∧ t.supervisor.search = true ∧ t.supervisor.fails = 0 ∧ t.supervisor.rateAtReply = false
      ∧ t.traffic = ⟨[], [], 15⟩
      ∧ (∀ i : Fin 256, t.config i = s.config i ∧ ((s.config i).inUse = true →
        t.runtime i = ⟨none, (s.config i).fallback, .unseen, .normal, false, none, none, none, none,
          none, none, none, false⟩))
      ∧ t.ptw.pendingOut = []
      ∧ t.fcu.knots = s.fcu.knots ∧ t.fcu.valid = s.fcu.valid ∧ t.fcu.dwell = s.fcu.dwell
      ∧ (∀ z : Fin 4, t.fcu.zones[z] = ⟨.unknown, false, false, 0, 0, 0, 0, 0, 0, 0, 0⟩)
      ∧ t.fcu.stage = 0 ∧ t.fcu.demand = 0 ∧ t.fcu.effective = 0 ∧ t.fcu.starved = false
      ∧ t.fcu.lastChange = none ∧ t.fcu.fan = none
      ∧ t.hau.k = s.hau.k ∧ t.hau.qStage = s.hau.qStage ∧ t.hau.boilerCap = s.hau.boilerCap
      ∧ t.hau.caps = s.hau.caps ∧ t.hau.zones = s.hau.zones ∧ t.hau.loads = s.hau.loads
      ∧ t.hau.budget = 0 ∧ t.hau.first = true ∧ t.hau.call = true ∧ t.hau.prevBoiler = 0
      ∧ t.hau.result = .zero
      ∧ (∀ c : Fin 4, let v := s.valve c
        t.valve c = { v with
          state := (match v.state with
            | .manual => .manual | .fault => .fault | .ready => .ready | _ => .unhomed),
          slot := .empty, target := v.position, remaining := 0, searchCount := 0, clearing := false })
      ∧ t.prf = s.prf ∧ t.tcu.memory = s.tcu.memory
      ∧ (∀ i : Fin 8, let c := s.tcu.channels[i]
        t.tcu.channels[i] = if c.active = true then { c with state := .ended, status := .reset } else c)
      ∧ t.cue.spans = s.cue.spans ∧ t.cue.scenes = s.cue.scenes ∧ t.cue.levelMap = s.cue.levelMap
      ∧ t.cue.lastSent = s.cue.lastSent ∧ (∀ b : Fin 16, t.cue.due[b] = true)
      ∧ t.cue.refreshPtr = 0 ∧ t.cue.refreshCount = 0 ∧ t.cue.cues = writtenBack s
      ∧ (∀ b : PlaybackId, let p := s.playback b
        (p.state ≠ .fading → t.playback b = p)
        ∧ (∀ i : Fin 256, p.state = .fading → p.current = some i →
          (t.playback b).state = .held ∧ (t.playback b).current = some i
          ∧ (t.playback b).pointer = Fin.ofNat 256 (s.cue.cues[i]).next
          ∧ (∀ ch : Fin 256, (t.playback b).levels[ch] = (match p.fade.channels[ch] with
            | some x => x.2
            | none => p.levels[ch]))))
      ∧ t.ntu.levels = s.ntu.levels ∧ t.ntu.threshold = s.ntu.threshold
      ∧ (∀ n : Fin 18, t.ntu.records[n] = ⟨0, 0, 0⟩)
      ∧ t.mgr.queue = [] ∧ t.mgr.inHand = none ∧ t.mgr.slot = none ∧ t.mgr.restarting = false
      ∧ t.mgr.address = s.mgr.address))
  ∧ (∀ s : State, ∃ t : State, s.supervisorReset = (List.finRange 4).foldl State.readLines t
    ∧ t.now = s.now ∧ t.hold = s.hold ∧ t.races = s.races ∧ t.pending = s.pending
    ∧ (∀ g : Segment, let f := s.field g
      t.field g = { f with
        line := ⟨(match f.newDivisor with | some n => n | none => f.line.divisor), .hunt, s.now, s.now,
          none, f.line.counts⟩,
        newDivisor := none, quiet := false, polls := (t.field g).polls, window := none,
        relayDown := [], nonPoll := 0 }
      ∧ ∀ i : Fin 32, (t.field g).polls[i] = { f.polls[i] with
          state := .unpolled, misses := 0, lastPoll := none })
    ∧ (let p := s.supervisor
      t.supervisor = { p with
        line := ⟨p.rateList[p.index], .hunt, s.now, s.now, none, p.line.counts⟩,
        fails := 0, rateAtReply := false })
    ∧ t.traffic = ⟨[], [], 15⟩
    ∧ t.ptw.pendingOut = []
    ∧ (∀ i : Fin 256, t.config i = s.config i ∧ ((s.config i).inUse = true →
      t.runtime i = ⟨none, (s.config i).fallback, .unseen, .normal, false, none, none, none, none,
        none, none, none, false⟩))
    ∧ t.fcu = { s.fcu with
        fields := ⟨300, 150, 50, 25, 2, 4, 1⟩,
        zones := .replicate 4 ⟨.unknown, false, false, 0, 0, 0, 0, 0, 0, 0, 0⟩,
        stage := 0, demand := 0, effective := 0, starved := false, lastChange := none, fan := none,
        nextEval := s.now + seconds 10 }
    ∧ t.hau = { s.hau with
        budget := 0, first := true, call := true, result := .zero, prevBoiler := 0,
        nextEval := s.now + seconds 2 }
    ∧ t.vdu.linesPlaced = true
    ∧ (∀ c : Fin 4, let v := s.valve c
      t.valve c = { v with
        state := (match v.state with
          | .manual => .manual | .fault => .fault | .ready => .ready | _ => .unhomed),
        slot := .empty, target := v.position, remaining := 0, searchCount := 0, clearing := false })
    ∧ t.prf = s.prf ∧ t.tcu.memory = s.tcu.memory
    ∧ (∀ i : Fin 8, let c := s.tcu.channels[i]
      t.tcu.channels[i] = if c.active = true then { c with state := .ended, status := .reset } else c)
    ∧ t.cue = { s.cue with
        cues := writtenBack s, playbackShow := t.cue.playbackShow, playbackHouse := t.cue.playbackHouse,
        due := .replicate 16 true, refreshPtr := 0, refreshCount := 0,
        nextFrame := s.now + millis 25 }
    ∧ (∀ b : PlaybackId, let p := s.playback b
      (p.state ≠ .fading → t.playback b = p)
      ∧ (∀ i : Fin 256, p.state = .fading → p.current = some i →
        t.playback b = ⟨.held, Fin.ofNat 256 (s.cue.cues[i]).next, some i,
          tabulate 256 (fun ch => match p.fade.channels[ch] with
            | some x => x.2
            | none => p.levels[ch]), ⟨.replicate 256 none, 0, 0⟩⟩))
    ∧ t.ntu = { s.ntu with records := .replicate 18 ⟨0, 0, 0⟩ }
    ∧ t.mgr = { s.mgr with
        queue := [], inHand := none, slot := none, restarting := false, supervisorFlag := true })
  ∧ (∀ (s : State) (r : Request), s.attends → r.operands = [] →
    exec (.restart r) s = .next ((s.setMgr { s.mgr with restarting := true }).reply r.source 18#8 r.tag
      .done []).arbitrate)
  ∧ (∀ (s : State) (straps : BitVec 7),
    let address := if straps.toNat = 0 ∨ straps.toNat = 127 then 126 else straps.toNat
    let timed := { s with
      hold := .working,
      mgr := { s.mgr with address := address },
      plant := { s.plant with
        line := { s.plant.line with lastEnd := s.now, lookFrom := s.now }, quiet := false },
      bowl := { s.bowl with
        line := { s.bowl.line with lastEnd := s.now, lookFrom := s.now }, quiet := false },
      supervisor := { s.supervisor with
        line := { s.supervisor.line with lastEnd := s.now, lookFrom := s.now } },
      fcu := { s.fcu with nextEval := s.now + seconds 10 },
      hau := { s.hau with nextEval := s.now + seconds 2 },
      cue := { s.cue with nextFrame := s.now + millis 25 } }
    (s.hold = .working → exec (.workStart straps) s = .next s.arbitrate)
    ∧ (s.hold = .powerOn → exec (.workStart straps) s
        = .next ((timed.raise .start 0 address).setVdu { s.vdu with
            linesPlaced := false, linesAt := s.now + millis 2 }).arbitrate)
    ∧ (s.hold = .lineReset → exec (.workStart straps) s
        = .next ((List.finRange 4).foldl State.readLines
            ((timed.raise .start 1 address).setVdu { s.vdu with linesPlaced := true })).arbitrate))
  ∧ (∀ (s : State) (c : Fin 4), let v := s.valve c
    let resting := fun (state : ValveState) (cause : FaultCause) =>
      s.setValve c { v with state := state, slot := .empty, target := v.position, cause := cause }
    (v.man = true → s.readLines c = resting .manual .none)
    ∧ (v.man = false → v.dflt = true →
      s.readLines c = (resting .fault .driveFault).raise .valveFault c.val 1)
    ∧ (v.man = false → v.dflt = false → v.state = .manual →
      s.readLines c = (resting .unhomed v.cause).autoHome c)
    ∧ (v.man = false → v.dflt = false → v.state ≠ .manual → s.readLines c = s.autoHome c))
end

