-- ==== Sys2Proof/Laws/State.lean ====
section
/-! SUPPORT. One lemma for each field and each setter of State, and for the access by segment and by
port. -/

namespace Sys2Proof.Machine

/-! ### setNow -/

@[simp] theorem State.setNow_now (s : State) (x : Nat) : (s.setNow x).now = x := rfl
@[simp] theorem State.setNow_hold (s : State) (x : Nat) : (s.setNow x).hold = s.hold := rfl
@[simp] theorem State.setNow_plant (s : State) (x : Nat) : (s.setNow x).plant = s.plant := rfl
@[simp] theorem State.setNow_bowl (s : State) (x : Nat) : (s.setNow x).bowl = s.bowl := rfl
@[simp] theorem State.setNow_supervisor (s : State) (x : Nat) : (s.setNow x).supervisor = s.supervisor := rfl
@[simp] theorem State.setNow_traffic (s : State) (x : Nat) : (s.setNow x).traffic = s.traffic := rfl
@[simp] theorem State.setNow_ptw (s : State) (x : Nat) : (s.setNow x).ptw = s.ptw := rfl
@[simp] theorem State.setNow_fcu (s : State) (x : Nat) : (s.setNow x).fcu = s.fcu := rfl
@[simp] theorem State.setNow_hau (s : State) (x : Nat) : (s.setNow x).hau = s.hau := rfl
@[simp] theorem State.setNow_vdu (s : State) (x : Nat) : (s.setNow x).vdu = s.vdu := rfl
@[simp] theorem State.setNow_cue (s : State) (x : Nat) : (s.setNow x).cue = s.cue := rfl
@[simp] theorem State.setNow_prf (s : State) (x : Nat) : (s.setNow x).prf = s.prf := rfl
@[simp] theorem State.setNow_tcu (s : State) (x : Nat) : (s.setNow x).tcu = s.tcu := rfl
@[simp] theorem State.setNow_ntu (s : State) (x : Nat) : (s.setNow x).ntu = s.ntu := rfl
@[simp] theorem State.setNow_mgr (s : State) (x : Nat) : (s.setNow x).mgr = s.mgr := rfl
@[simp] theorem State.setNow_races (s : State) (x : Nat) : (s.setNow x).races = s.races := rfl
@[simp] theorem State.setNow_pending (s : State) (x : Nat) : (s.setNow x).pending = s.pending := rfl
@[simp] theorem State.setNow_setNow (s : State) (x y : Nat) :
    (s.setNow x).setNow y = s.setNow y := rfl
@[simp] theorem State.setNow_self (s : State) : s.setNow s.now = s := rfl

/-! ### setHold -/

@[simp] theorem State.setHold_now (s : State) (x : Hold) : (s.setHold x).now = s.now := rfl
@[simp] theorem State.setHold_hold (s : State) (x : Hold) : (s.setHold x).hold = x := rfl
@[simp] theorem State.setHold_plant (s : State) (x : Hold) : (s.setHold x).plant = s.plant := rfl
@[simp] theorem State.setHold_bowl (s : State) (x : Hold) : (s.setHold x).bowl = s.bowl := rfl
@[simp] theorem State.setHold_supervisor (s : State) (x : Hold) : (s.setHold x).supervisor = s.supervisor := rfl
@[simp] theorem State.setHold_traffic (s : State) (x : Hold) : (s.setHold x).traffic = s.traffic := rfl
@[simp] theorem State.setHold_ptw (s : State) (x : Hold) : (s.setHold x).ptw = s.ptw := rfl
@[simp] theorem State.setHold_fcu (s : State) (x : Hold) : (s.setHold x).fcu = s.fcu := rfl
@[simp] theorem State.setHold_hau (s : State) (x : Hold) : (s.setHold x).hau = s.hau := rfl
@[simp] theorem State.setHold_vdu (s : State) (x : Hold) : (s.setHold x).vdu = s.vdu := rfl
@[simp] theorem State.setHold_cue (s : State) (x : Hold) : (s.setHold x).cue = s.cue := rfl
@[simp] theorem State.setHold_prf (s : State) (x : Hold) : (s.setHold x).prf = s.prf := rfl
@[simp] theorem State.setHold_tcu (s : State) (x : Hold) : (s.setHold x).tcu = s.tcu := rfl
@[simp] theorem State.setHold_ntu (s : State) (x : Hold) : (s.setHold x).ntu = s.ntu := rfl
@[simp] theorem State.setHold_mgr (s : State) (x : Hold) : (s.setHold x).mgr = s.mgr := rfl
@[simp] theorem State.setHold_races (s : State) (x : Hold) : (s.setHold x).races = s.races := rfl
@[simp] theorem State.setHold_pending (s : State) (x : Hold) : (s.setHold x).pending = s.pending := rfl
@[simp] theorem State.setHold_setHold (s : State) (x y : Hold) :
    (s.setHold x).setHold y = s.setHold y := rfl
@[simp] theorem State.setHold_self (s : State) : s.setHold s.hold = s := rfl

/-! ### setPlant -/

@[simp] theorem State.setPlant_now (s : State) (x : FieldPort) : (s.setPlant x).now = s.now := rfl
@[simp] theorem State.setPlant_hold (s : State) (x : FieldPort) : (s.setPlant x).hold = s.hold := rfl
@[simp] theorem State.setPlant_plant (s : State) (x : FieldPort) : (s.setPlant x).plant = x := rfl
@[simp] theorem State.setPlant_bowl (s : State) (x : FieldPort) : (s.setPlant x).bowl = s.bowl := rfl
@[simp] theorem State.setPlant_supervisor (s : State) (x : FieldPort) : (s.setPlant x).supervisor = s.supervisor := rfl
@[simp] theorem State.setPlant_traffic (s : State) (x : FieldPort) : (s.setPlant x).traffic = s.traffic := rfl
@[simp] theorem State.setPlant_ptw (s : State) (x : FieldPort) : (s.setPlant x).ptw = s.ptw := rfl
@[simp] theorem State.setPlant_fcu (s : State) (x : FieldPort) : (s.setPlant x).fcu = s.fcu := rfl
@[simp] theorem State.setPlant_hau (s : State) (x : FieldPort) : (s.setPlant x).hau = s.hau := rfl
@[simp] theorem State.setPlant_vdu (s : State) (x : FieldPort) : (s.setPlant x).vdu = s.vdu := rfl
@[simp] theorem State.setPlant_cue (s : State) (x : FieldPort) : (s.setPlant x).cue = s.cue := rfl
@[simp] theorem State.setPlant_prf (s : State) (x : FieldPort) : (s.setPlant x).prf = s.prf := rfl
@[simp] theorem State.setPlant_tcu (s : State) (x : FieldPort) : (s.setPlant x).tcu = s.tcu := rfl
@[simp] theorem State.setPlant_ntu (s : State) (x : FieldPort) : (s.setPlant x).ntu = s.ntu := rfl
@[simp] theorem State.setPlant_mgr (s : State) (x : FieldPort) : (s.setPlant x).mgr = s.mgr := rfl
@[simp] theorem State.setPlant_races (s : State) (x : FieldPort) : (s.setPlant x).races = s.races := rfl
@[simp] theorem State.setPlant_pending (s : State) (x : FieldPort) : (s.setPlant x).pending = s.pending := rfl
@[simp] theorem State.setPlant_setPlant (s : State) (x y : FieldPort) :
    (s.setPlant x).setPlant y = s.setPlant y := rfl
@[simp] theorem State.setPlant_self (s : State) : s.setPlant s.plant = s := rfl

/-! ### setBowl -/

@[simp] theorem State.setBowl_now (s : State) (x : FieldPort) : (s.setBowl x).now = s.now := rfl
@[simp] theorem State.setBowl_hold (s : State) (x : FieldPort) : (s.setBowl x).hold = s.hold := rfl
@[simp] theorem State.setBowl_plant (s : State) (x : FieldPort) : (s.setBowl x).plant = s.plant := rfl
@[simp] theorem State.setBowl_bowl (s : State) (x : FieldPort) : (s.setBowl x).bowl = x := rfl
@[simp] theorem State.setBowl_supervisor (s : State) (x : FieldPort) : (s.setBowl x).supervisor = s.supervisor := rfl
@[simp] theorem State.setBowl_traffic (s : State) (x : FieldPort) : (s.setBowl x).traffic = s.traffic := rfl
@[simp] theorem State.setBowl_ptw (s : State) (x : FieldPort) : (s.setBowl x).ptw = s.ptw := rfl
@[simp] theorem State.setBowl_fcu (s : State) (x : FieldPort) : (s.setBowl x).fcu = s.fcu := rfl
@[simp] theorem State.setBowl_hau (s : State) (x : FieldPort) : (s.setBowl x).hau = s.hau := rfl
@[simp] theorem State.setBowl_vdu (s : State) (x : FieldPort) : (s.setBowl x).vdu = s.vdu := rfl
@[simp] theorem State.setBowl_cue (s : State) (x : FieldPort) : (s.setBowl x).cue = s.cue := rfl
@[simp] theorem State.setBowl_prf (s : State) (x : FieldPort) : (s.setBowl x).prf = s.prf := rfl
@[simp] theorem State.setBowl_tcu (s : State) (x : FieldPort) : (s.setBowl x).tcu = s.tcu := rfl
@[simp] theorem State.setBowl_ntu (s : State) (x : FieldPort) : (s.setBowl x).ntu = s.ntu := rfl
@[simp] theorem State.setBowl_mgr (s : State) (x : FieldPort) : (s.setBowl x).mgr = s.mgr := rfl
@[simp] theorem State.setBowl_races (s : State) (x : FieldPort) : (s.setBowl x).races = s.races := rfl
@[simp] theorem State.setBowl_pending (s : State) (x : FieldPort) : (s.setBowl x).pending = s.pending := rfl
@[simp] theorem State.setBowl_setBowl (s : State) (x y : FieldPort) :
    (s.setBowl x).setBowl y = s.setBowl y := rfl
@[simp] theorem State.setBowl_self (s : State) : s.setBowl s.bowl = s := rfl

/-! ### setSupervisor -/

@[simp] theorem State.setSupervisor_now (s : State) (x : SupervisorPort) : (s.setSupervisor x).now = s.now := rfl
@[simp] theorem State.setSupervisor_hold (s : State) (x : SupervisorPort) : (s.setSupervisor x).hold = s.hold := rfl
@[simp] theorem State.setSupervisor_plant (s : State) (x : SupervisorPort) : (s.setSupervisor x).plant = s.plant := rfl
@[simp] theorem State.setSupervisor_bowl (s : State) (x : SupervisorPort) : (s.setSupervisor x).bowl = s.bowl := rfl
@[simp] theorem State.setSupervisor_supervisor (s : State) (x : SupervisorPort) : (s.setSupervisor x).supervisor = x := rfl
@[simp] theorem State.setSupervisor_traffic (s : State) (x : SupervisorPort) : (s.setSupervisor x).traffic = s.traffic := rfl
@[simp] theorem State.setSupervisor_ptw (s : State) (x : SupervisorPort) : (s.setSupervisor x).ptw = s.ptw := rfl
@[simp] theorem State.setSupervisor_fcu (s : State) (x : SupervisorPort) : (s.setSupervisor x).fcu = s.fcu := rfl
@[simp] theorem State.setSupervisor_hau (s : State) (x : SupervisorPort) : (s.setSupervisor x).hau = s.hau := rfl
@[simp] theorem State.setSupervisor_vdu (s : State) (x : SupervisorPort) : (s.setSupervisor x).vdu = s.vdu := rfl
@[simp] theorem State.setSupervisor_cue (s : State) (x : SupervisorPort) : (s.setSupervisor x).cue = s.cue := rfl
@[simp] theorem State.setSupervisor_prf (s : State) (x : SupervisorPort) : (s.setSupervisor x).prf = s.prf := rfl
@[simp] theorem State.setSupervisor_tcu (s : State) (x : SupervisorPort) : (s.setSupervisor x).tcu = s.tcu := rfl
@[simp] theorem State.setSupervisor_ntu (s : State) (x : SupervisorPort) : (s.setSupervisor x).ntu = s.ntu := rfl
@[simp] theorem State.setSupervisor_mgr (s : State) (x : SupervisorPort) : (s.setSupervisor x).mgr = s.mgr := rfl
@[simp] theorem State.setSupervisor_races (s : State) (x : SupervisorPort) : (s.setSupervisor x).races = s.races := rfl
@[simp] theorem State.setSupervisor_pending (s : State) (x : SupervisorPort) : (s.setSupervisor x).pending = s.pending := rfl
@[simp] theorem State.setSupervisor_setSupervisor (s : State) (x y : SupervisorPort) :
    (s.setSupervisor x).setSupervisor y = s.setSupervisor y := rfl
@[simp] theorem State.setSupervisor_self (s : State) : s.setSupervisor s.supervisor = s := rfl

/-! ### setTraffic -/

@[simp] theorem State.setTraffic_now (s : State) (x : Traffic) : (s.setTraffic x).now = s.now := rfl
@[simp] theorem State.setTraffic_hold (s : State) (x : Traffic) : (s.setTraffic x).hold = s.hold := rfl
@[simp] theorem State.setTraffic_plant (s : State) (x : Traffic) : (s.setTraffic x).plant = s.plant := rfl
@[simp] theorem State.setTraffic_bowl (s : State) (x : Traffic) : (s.setTraffic x).bowl = s.bowl := rfl
@[simp] theorem State.setTraffic_supervisor (s : State) (x : Traffic) : (s.setTraffic x).supervisor = s.supervisor := rfl
@[simp] theorem State.setTraffic_traffic (s : State) (x : Traffic) : (s.setTraffic x).traffic = x := rfl
@[simp] theorem State.setTraffic_ptw (s : State) (x : Traffic) : (s.setTraffic x).ptw = s.ptw := rfl
@[simp] theorem State.setTraffic_fcu (s : State) (x : Traffic) : (s.setTraffic x).fcu = s.fcu := rfl
@[simp] theorem State.setTraffic_hau (s : State) (x : Traffic) : (s.setTraffic x).hau = s.hau := rfl
@[simp] theorem State.setTraffic_vdu (s : State) (x : Traffic) : (s.setTraffic x).vdu = s.vdu := rfl
@[simp] theorem State.setTraffic_cue (s : State) (x : Traffic) : (s.setTraffic x).cue = s.cue := rfl
@[simp] theorem State.setTraffic_prf (s : State) (x : Traffic) : (s.setTraffic x).prf = s.prf := rfl
@[simp] theorem State.setTraffic_tcu (s : State) (x : Traffic) : (s.setTraffic x).tcu = s.tcu := rfl
@[simp] theorem State.setTraffic_ntu (s : State) (x : Traffic) : (s.setTraffic x).ntu = s.ntu := rfl
@[simp] theorem State.setTraffic_mgr (s : State) (x : Traffic) : (s.setTraffic x).mgr = s.mgr := rfl
@[simp] theorem State.setTraffic_races (s : State) (x : Traffic) : (s.setTraffic x).races = s.races := rfl
@[simp] theorem State.setTraffic_pending (s : State) (x : Traffic) : (s.setTraffic x).pending = s.pending := rfl
@[simp] theorem State.setTraffic_setTraffic (s : State) (x y : Traffic) :
    (s.setTraffic x).setTraffic y = s.setTraffic y := rfl
@[simp] theorem State.setTraffic_self (s : State) : s.setTraffic s.traffic = s := rfl

/-! ### setPtw -/

@[simp] theorem State.setPtw_now (s : State) (x : PointTable) : (s.setPtw x).now = s.now := rfl
@[simp] theorem State.setPtw_hold (s : State) (x : PointTable) : (s.setPtw x).hold = s.hold := rfl
@[simp] theorem State.setPtw_plant (s : State) (x : PointTable) : (s.setPtw x).plant = s.plant := rfl
@[simp] theorem State.setPtw_bowl (s : State) (x : PointTable) : (s.setPtw x).bowl = s.bowl := rfl
@[simp] theorem State.setPtw_supervisor (s : State) (x : PointTable) : (s.setPtw x).supervisor = s.supervisor := rfl
@[simp] theorem State.setPtw_traffic (s : State) (x : PointTable) : (s.setPtw x).traffic = s.traffic := rfl
@[simp] theorem State.setPtw_ptw (s : State) (x : PointTable) : (s.setPtw x).ptw = x := rfl
@[simp] theorem State.setPtw_fcu (s : State) (x : PointTable) : (s.setPtw x).fcu = s.fcu := rfl
@[simp] theorem State.setPtw_hau (s : State) (x : PointTable) : (s.setPtw x).hau = s.hau := rfl
@[simp] theorem State.setPtw_vdu (s : State) (x : PointTable) : (s.setPtw x).vdu = s.vdu := rfl
@[simp] theorem State.setPtw_cue (s : State) (x : PointTable) : (s.setPtw x).cue = s.cue := rfl
@[simp] theorem State.setPtw_prf (s : State) (x : PointTable) : (s.setPtw x).prf = s.prf := rfl
@[simp] theorem State.setPtw_tcu (s : State) (x : PointTable) : (s.setPtw x).tcu = s.tcu := rfl
@[simp] theorem State.setPtw_ntu (s : State) (x : PointTable) : (s.setPtw x).ntu = s.ntu := rfl
@[simp] theorem State.setPtw_mgr (s : State) (x : PointTable) : (s.setPtw x).mgr = s.mgr := rfl
@[simp] theorem State.setPtw_races (s : State) (x : PointTable) : (s.setPtw x).races = s.races := rfl
@[simp] theorem State.setPtw_pending (s : State) (x : PointTable) : (s.setPtw x).pending = s.pending := rfl
@[simp] theorem State.setPtw_setPtw (s : State) (x y : PointTable) :
    (s.setPtw x).setPtw y = s.setPtw y := rfl
@[simp] theorem State.setPtw_self (s : State) : s.setPtw s.ptw = s := rfl

/-! ### setFcu -/

@[simp] theorem State.setFcu_now (s : State) (x : Fcu) : (s.setFcu x).now = s.now := rfl
@[simp] theorem State.setFcu_hold (s : State) (x : Fcu) : (s.setFcu x).hold = s.hold := rfl
@[simp] theorem State.setFcu_plant (s : State) (x : Fcu) : (s.setFcu x).plant = s.plant := rfl
@[simp] theorem State.setFcu_bowl (s : State) (x : Fcu) : (s.setFcu x).bowl = s.bowl := rfl
@[simp] theorem State.setFcu_supervisor (s : State) (x : Fcu) : (s.setFcu x).supervisor = s.supervisor := rfl
@[simp] theorem State.setFcu_traffic (s : State) (x : Fcu) : (s.setFcu x).traffic = s.traffic := rfl
@[simp] theorem State.setFcu_ptw (s : State) (x : Fcu) : (s.setFcu x).ptw = s.ptw := rfl
@[simp] theorem State.setFcu_fcu (s : State) (x : Fcu) : (s.setFcu x).fcu = x := rfl
@[simp] theorem State.setFcu_hau (s : State) (x : Fcu) : (s.setFcu x).hau = s.hau := rfl
@[simp] theorem State.setFcu_vdu (s : State) (x : Fcu) : (s.setFcu x).vdu = s.vdu := rfl
@[simp] theorem State.setFcu_cue (s : State) (x : Fcu) : (s.setFcu x).cue = s.cue := rfl
@[simp] theorem State.setFcu_prf (s : State) (x : Fcu) : (s.setFcu x).prf = s.prf := rfl
@[simp] theorem State.setFcu_tcu (s : State) (x : Fcu) : (s.setFcu x).tcu = s.tcu := rfl
@[simp] theorem State.setFcu_ntu (s : State) (x : Fcu) : (s.setFcu x).ntu = s.ntu := rfl
@[simp] theorem State.setFcu_mgr (s : State) (x : Fcu) : (s.setFcu x).mgr = s.mgr := rfl
@[simp] theorem State.setFcu_races (s : State) (x : Fcu) : (s.setFcu x).races = s.races := rfl
@[simp] theorem State.setFcu_pending (s : State) (x : Fcu) : (s.setFcu x).pending = s.pending := rfl
@[simp] theorem State.setFcu_setFcu (s : State) (x y : Fcu) :
    (s.setFcu x).setFcu y = s.setFcu y := rfl
@[simp] theorem State.setFcu_self (s : State) : s.setFcu s.fcu = s := rfl

/-! ### setHau -/

@[simp] theorem State.setHau_now (s : State) (x : Hau) : (s.setHau x).now = s.now := rfl
@[simp] theorem State.setHau_hold (s : State) (x : Hau) : (s.setHau x).hold = s.hold := rfl
@[simp] theorem State.setHau_plant (s : State) (x : Hau) : (s.setHau x).plant = s.plant := rfl
@[simp] theorem State.setHau_bowl (s : State) (x : Hau) : (s.setHau x).bowl = s.bowl := rfl
@[simp] theorem State.setHau_supervisor (s : State) (x : Hau) : (s.setHau x).supervisor = s.supervisor := rfl
@[simp] theorem State.setHau_traffic (s : State) (x : Hau) : (s.setHau x).traffic = s.traffic := rfl
@[simp] theorem State.setHau_ptw (s : State) (x : Hau) : (s.setHau x).ptw = s.ptw := rfl
@[simp] theorem State.setHau_fcu (s : State) (x : Hau) : (s.setHau x).fcu = s.fcu := rfl
@[simp] theorem State.setHau_hau (s : State) (x : Hau) : (s.setHau x).hau = x := rfl
@[simp] theorem State.setHau_vdu (s : State) (x : Hau) : (s.setHau x).vdu = s.vdu := rfl
@[simp] theorem State.setHau_cue (s : State) (x : Hau) : (s.setHau x).cue = s.cue := rfl
@[simp] theorem State.setHau_prf (s : State) (x : Hau) : (s.setHau x).prf = s.prf := rfl
@[simp] theorem State.setHau_tcu (s : State) (x : Hau) : (s.setHau x).tcu = s.tcu := rfl
@[simp] theorem State.setHau_ntu (s : State) (x : Hau) : (s.setHau x).ntu = s.ntu := rfl
@[simp] theorem State.setHau_mgr (s : State) (x : Hau) : (s.setHau x).mgr = s.mgr := rfl
@[simp] theorem State.setHau_races (s : State) (x : Hau) : (s.setHau x).races = s.races := rfl
@[simp] theorem State.setHau_pending (s : State) (x : Hau) : (s.setHau x).pending = s.pending := rfl
@[simp] theorem State.setHau_setHau (s : State) (x y : Hau) :
    (s.setHau x).setHau y = s.setHau y := rfl
@[simp] theorem State.setHau_self (s : State) : s.setHau s.hau = s := rfl

/-! ### setVdu -/

@[simp] theorem State.setVdu_now (s : State) (x : Vdu) : (s.setVdu x).now = s.now := rfl
@[simp] theorem State.setVdu_hold (s : State) (x : Vdu) : (s.setVdu x).hold = s.hold := rfl
@[simp] theorem State.setVdu_plant (s : State) (x : Vdu) : (s.setVdu x).plant = s.plant := rfl
@[simp] theorem State.setVdu_bowl (s : State) (x : Vdu) : (s.setVdu x).bowl = s.bowl := rfl
@[simp] theorem State.setVdu_supervisor (s : State) (x : Vdu) : (s.setVdu x).supervisor = s.supervisor := rfl
@[simp] theorem State.setVdu_traffic (s : State) (x : Vdu) : (s.setVdu x).traffic = s.traffic := rfl
@[simp] theorem State.setVdu_ptw (s : State) (x : Vdu) : (s.setVdu x).ptw = s.ptw := rfl
@[simp] theorem State.setVdu_fcu (s : State) (x : Vdu) : (s.setVdu x).fcu = s.fcu := rfl
@[simp] theorem State.setVdu_hau (s : State) (x : Vdu) : (s.setVdu x).hau = s.hau := rfl
@[simp] theorem State.setVdu_vdu (s : State) (x : Vdu) : (s.setVdu x).vdu = x := rfl
@[simp] theorem State.setVdu_cue (s : State) (x : Vdu) : (s.setVdu x).cue = s.cue := rfl
@[simp] theorem State.setVdu_prf (s : State) (x : Vdu) : (s.setVdu x).prf = s.prf := rfl
@[simp] theorem State.setVdu_tcu (s : State) (x : Vdu) : (s.setVdu x).tcu = s.tcu := rfl
@[simp] theorem State.setVdu_ntu (s : State) (x : Vdu) : (s.setVdu x).ntu = s.ntu := rfl
@[simp] theorem State.setVdu_mgr (s : State) (x : Vdu) : (s.setVdu x).mgr = s.mgr := rfl
@[simp] theorem State.setVdu_races (s : State) (x : Vdu) : (s.setVdu x).races = s.races := rfl
@[simp] theorem State.setVdu_pending (s : State) (x : Vdu) : (s.setVdu x).pending = s.pending := rfl
@[simp] theorem State.setVdu_setVdu (s : State) (x y : Vdu) :
    (s.setVdu x).setVdu y = s.setVdu y := rfl
@[simp] theorem State.setVdu_self (s : State) : s.setVdu s.vdu = s := rfl

/-! ### setCue -/

@[simp] theorem State.setCue_now (s : State) (x : CueEngine) : (s.setCue x).now = s.now := rfl
@[simp] theorem State.setCue_hold (s : State) (x : CueEngine) : (s.setCue x).hold = s.hold := rfl
@[simp] theorem State.setCue_plant (s : State) (x : CueEngine) : (s.setCue x).plant = s.plant := rfl
@[simp] theorem State.setCue_bowl (s : State) (x : CueEngine) : (s.setCue x).bowl = s.bowl := rfl
@[simp] theorem State.setCue_supervisor (s : State) (x : CueEngine) : (s.setCue x).supervisor = s.supervisor := rfl
@[simp] theorem State.setCue_traffic (s : State) (x : CueEngine) : (s.setCue x).traffic = s.traffic := rfl
@[simp] theorem State.setCue_ptw (s : State) (x : CueEngine) : (s.setCue x).ptw = s.ptw := rfl
@[simp] theorem State.setCue_fcu (s : State) (x : CueEngine) : (s.setCue x).fcu = s.fcu := rfl
@[simp] theorem State.setCue_hau (s : State) (x : CueEngine) : (s.setCue x).hau = s.hau := rfl
@[simp] theorem State.setCue_vdu (s : State) (x : CueEngine) : (s.setCue x).vdu = s.vdu := rfl
@[simp] theorem State.setCue_cue (s : State) (x : CueEngine) : (s.setCue x).cue = x := rfl
@[simp] theorem State.setCue_prf (s : State) (x : CueEngine) : (s.setCue x).prf = s.prf := rfl
@[simp] theorem State.setCue_tcu (s : State) (x : CueEngine) : (s.setCue x).tcu = s.tcu := rfl
@[simp] theorem State.setCue_ntu (s : State) (x : CueEngine) : (s.setCue x).ntu = s.ntu := rfl
@[simp] theorem State.setCue_mgr (s : State) (x : CueEngine) : (s.setCue x).mgr = s.mgr := rfl
@[simp] theorem State.setCue_races (s : State) (x : CueEngine) : (s.setCue x).races = s.races := rfl
@[simp] theorem State.setCue_pending (s : State) (x : CueEngine) : (s.setCue x).pending = s.pending := rfl
@[simp] theorem State.setCue_setCue (s : State) (x y : CueEngine) :
    (s.setCue x).setCue y = s.setCue y := rfl
@[simp] theorem State.setCue_self (s : State) : s.setCue s.cue = s := rfl

/-! ### setPrf -/

@[simp] theorem State.setPrf_now (s : State) (x : Prf) : (s.setPrf x).now = s.now := rfl
@[simp] theorem State.setPrf_hold (s : State) (x : Prf) : (s.setPrf x).hold = s.hold := rfl
@[simp] theorem State.setPrf_plant (s : State) (x : Prf) : (s.setPrf x).plant = s.plant := rfl
@[simp] theorem State.setPrf_bowl (s : State) (x : Prf) : (s.setPrf x).bowl = s.bowl := rfl
@[simp] theorem State.setPrf_supervisor (s : State) (x : Prf) : (s.setPrf x).supervisor = s.supervisor := rfl
@[simp] theorem State.setPrf_traffic (s : State) (x : Prf) : (s.setPrf x).traffic = s.traffic := rfl
@[simp] theorem State.setPrf_ptw (s : State) (x : Prf) : (s.setPrf x).ptw = s.ptw := rfl
@[simp] theorem State.setPrf_fcu (s : State) (x : Prf) : (s.setPrf x).fcu = s.fcu := rfl
@[simp] theorem State.setPrf_hau (s : State) (x : Prf) : (s.setPrf x).hau = s.hau := rfl
@[simp] theorem State.setPrf_vdu (s : State) (x : Prf) : (s.setPrf x).vdu = s.vdu := rfl
@[simp] theorem State.setPrf_cue (s : State) (x : Prf) : (s.setPrf x).cue = s.cue := rfl
@[simp] theorem State.setPrf_prf (s : State) (x : Prf) : (s.setPrf x).prf = x := rfl
@[simp] theorem State.setPrf_tcu (s : State) (x : Prf) : (s.setPrf x).tcu = s.tcu := rfl
@[simp] theorem State.setPrf_ntu (s : State) (x : Prf) : (s.setPrf x).ntu = s.ntu := rfl
@[simp] theorem State.setPrf_mgr (s : State) (x : Prf) : (s.setPrf x).mgr = s.mgr := rfl
@[simp] theorem State.setPrf_races (s : State) (x : Prf) : (s.setPrf x).races = s.races := rfl
@[simp] theorem State.setPrf_pending (s : State) (x : Prf) : (s.setPrf x).pending = s.pending := rfl
@[simp] theorem State.setPrf_setPrf (s : State) (x y : Prf) :
    (s.setPrf x).setPrf y = s.setPrf y := rfl
@[simp] theorem State.setPrf_self (s : State) : s.setPrf s.prf = s := rfl

/-! ### setTcu -/

@[simp] theorem State.setTcu_now (s : State) (x : Tcu) : (s.setTcu x).now = s.now := rfl
@[simp] theorem State.setTcu_hold (s : State) (x : Tcu) : (s.setTcu x).hold = s.hold := rfl
@[simp] theorem State.setTcu_plant (s : State) (x : Tcu) : (s.setTcu x).plant = s.plant := rfl
@[simp] theorem State.setTcu_bowl (s : State) (x : Tcu) : (s.setTcu x).bowl = s.bowl := rfl
@[simp] theorem State.setTcu_supervisor (s : State) (x : Tcu) : (s.setTcu x).supervisor = s.supervisor := rfl
@[simp] theorem State.setTcu_traffic (s : State) (x : Tcu) : (s.setTcu x).traffic = s.traffic := rfl
@[simp] theorem State.setTcu_ptw (s : State) (x : Tcu) : (s.setTcu x).ptw = s.ptw := rfl
@[simp] theorem State.setTcu_fcu (s : State) (x : Tcu) : (s.setTcu x).fcu = s.fcu := rfl
@[simp] theorem State.setTcu_hau (s : State) (x : Tcu) : (s.setTcu x).hau = s.hau := rfl
@[simp] theorem State.setTcu_vdu (s : State) (x : Tcu) : (s.setTcu x).vdu = s.vdu := rfl
@[simp] theorem State.setTcu_cue (s : State) (x : Tcu) : (s.setTcu x).cue = s.cue := rfl
@[simp] theorem State.setTcu_prf (s : State) (x : Tcu) : (s.setTcu x).prf = s.prf := rfl
@[simp] theorem State.setTcu_tcu (s : State) (x : Tcu) : (s.setTcu x).tcu = x := rfl
@[simp] theorem State.setTcu_ntu (s : State) (x : Tcu) : (s.setTcu x).ntu = s.ntu := rfl
@[simp] theorem State.setTcu_mgr (s : State) (x : Tcu) : (s.setTcu x).mgr = s.mgr := rfl
@[simp] theorem State.setTcu_races (s : State) (x : Tcu) : (s.setTcu x).races = s.races := rfl
@[simp] theorem State.setTcu_pending (s : State) (x : Tcu) : (s.setTcu x).pending = s.pending := rfl
@[simp] theorem State.setTcu_setTcu (s : State) (x y : Tcu) :
    (s.setTcu x).setTcu y = s.setTcu y := rfl
@[simp] theorem State.setTcu_self (s : State) : s.setTcu s.tcu = s := rfl

/-! ### setNtu -/

@[simp] theorem State.setNtu_now (s : State) (x : Ntu) : (s.setNtu x).now = s.now := rfl
@[simp] theorem State.setNtu_hold (s : State) (x : Ntu) : (s.setNtu x).hold = s.hold := rfl
@[simp] theorem State.setNtu_plant (s : State) (x : Ntu) : (s.setNtu x).plant = s.plant := rfl
@[simp] theorem State.setNtu_bowl (s : State) (x : Ntu) : (s.setNtu x).bowl = s.bowl := rfl
@[simp] theorem State.setNtu_supervisor (s : State) (x : Ntu) : (s.setNtu x).supervisor = s.supervisor := rfl
@[simp] theorem State.setNtu_traffic (s : State) (x : Ntu) : (s.setNtu x).traffic = s.traffic := rfl
@[simp] theorem State.setNtu_ptw (s : State) (x : Ntu) : (s.setNtu x).ptw = s.ptw := rfl
@[simp] theorem State.setNtu_fcu (s : State) (x : Ntu) : (s.setNtu x).fcu = s.fcu := rfl
@[simp] theorem State.setNtu_hau (s : State) (x : Ntu) : (s.setNtu x).hau = s.hau := rfl
@[simp] theorem State.setNtu_vdu (s : State) (x : Ntu) : (s.setNtu x).vdu = s.vdu := rfl
@[simp] theorem State.setNtu_cue (s : State) (x : Ntu) : (s.setNtu x).cue = s.cue := rfl
@[simp] theorem State.setNtu_prf (s : State) (x : Ntu) : (s.setNtu x).prf = s.prf := rfl
@[simp] theorem State.setNtu_tcu (s : State) (x : Ntu) : (s.setNtu x).tcu = s.tcu := rfl
@[simp] theorem State.setNtu_ntu (s : State) (x : Ntu) : (s.setNtu x).ntu = x := rfl
@[simp] theorem State.setNtu_mgr (s : State) (x : Ntu) : (s.setNtu x).mgr = s.mgr := rfl
@[simp] theorem State.setNtu_races (s : State) (x : Ntu) : (s.setNtu x).races = s.races := rfl
@[simp] theorem State.setNtu_pending (s : State) (x : Ntu) : (s.setNtu x).pending = s.pending := rfl
@[simp] theorem State.setNtu_setNtu (s : State) (x y : Ntu) :
    (s.setNtu x).setNtu y = s.setNtu y := rfl
@[simp] theorem State.setNtu_self (s : State) : s.setNtu s.ntu = s := rfl

/-! ### setMgr -/

@[simp] theorem State.setMgr_now (s : State) (x : Mgr) : (s.setMgr x).now = s.now := rfl
@[simp] theorem State.setMgr_hold (s : State) (x : Mgr) : (s.setMgr x).hold = s.hold := rfl
@[simp] theorem State.setMgr_plant (s : State) (x : Mgr) : (s.setMgr x).plant = s.plant := rfl
@[simp] theorem State.setMgr_bowl (s : State) (x : Mgr) : (s.setMgr x).bowl = s.bowl := rfl
@[simp] theorem State.setMgr_supervisor (s : State) (x : Mgr) : (s.setMgr x).supervisor = s.supervisor := rfl
@[simp] theorem State.setMgr_traffic (s : State) (x : Mgr) : (s.setMgr x).traffic = s.traffic := rfl
@[simp] theorem State.setMgr_ptw (s : State) (x : Mgr) : (s.setMgr x).ptw = s.ptw := rfl
@[simp] theorem State.setMgr_fcu (s : State) (x : Mgr) : (s.setMgr x).fcu = s.fcu := rfl
@[simp] theorem State.setMgr_hau (s : State) (x : Mgr) : (s.setMgr x).hau = s.hau := rfl
@[simp] theorem State.setMgr_vdu (s : State) (x : Mgr) : (s.setMgr x).vdu = s.vdu := rfl
@[simp] theorem State.setMgr_cue (s : State) (x : Mgr) : (s.setMgr x).cue = s.cue := rfl
@[simp] theorem State.setMgr_prf (s : State) (x : Mgr) : (s.setMgr x).prf = s.prf := rfl
@[simp] theorem State.setMgr_tcu (s : State) (x : Mgr) : (s.setMgr x).tcu = s.tcu := rfl
@[simp] theorem State.setMgr_ntu (s : State) (x : Mgr) : (s.setMgr x).ntu = s.ntu := rfl
@[simp] theorem State.setMgr_mgr (s : State) (x : Mgr) : (s.setMgr x).mgr = x := rfl
@[simp] theorem State.setMgr_races (s : State) (x : Mgr) : (s.setMgr x).races = s.races := rfl
@[simp] theorem State.setMgr_pending (s : State) (x : Mgr) : (s.setMgr x).pending = s.pending := rfl
@[simp] theorem State.setMgr_setMgr (s : State) (x y : Mgr) :
    (s.setMgr x).setMgr y = s.setMgr y := rfl
@[simp] theorem State.setMgr_self (s : State) : s.setMgr s.mgr = s := rfl

/-! ### setRaces -/

@[simp] theorem State.setRaces_now (s : State) (x : Nat) : (s.setRaces x).now = s.now := rfl
@[simp] theorem State.setRaces_hold (s : State) (x : Nat) : (s.setRaces x).hold = s.hold := rfl
@[simp] theorem State.setRaces_plant (s : State) (x : Nat) : (s.setRaces x).plant = s.plant := rfl
@[simp] theorem State.setRaces_bowl (s : State) (x : Nat) : (s.setRaces x).bowl = s.bowl := rfl
@[simp] theorem State.setRaces_supervisor (s : State) (x : Nat) : (s.setRaces x).supervisor = s.supervisor := rfl
@[simp] theorem State.setRaces_traffic (s : State) (x : Nat) : (s.setRaces x).traffic = s.traffic := rfl
@[simp] theorem State.setRaces_ptw (s : State) (x : Nat) : (s.setRaces x).ptw = s.ptw := rfl
@[simp] theorem State.setRaces_fcu (s : State) (x : Nat) : (s.setRaces x).fcu = s.fcu := rfl
@[simp] theorem State.setRaces_hau (s : State) (x : Nat) : (s.setRaces x).hau = s.hau := rfl
@[simp] theorem State.setRaces_vdu (s : State) (x : Nat) : (s.setRaces x).vdu = s.vdu := rfl
@[simp] theorem State.setRaces_cue (s : State) (x : Nat) : (s.setRaces x).cue = s.cue := rfl
@[simp] theorem State.setRaces_prf (s : State) (x : Nat) : (s.setRaces x).prf = s.prf := rfl
@[simp] theorem State.setRaces_tcu (s : State) (x : Nat) : (s.setRaces x).tcu = s.tcu := rfl
@[simp] theorem State.setRaces_ntu (s : State) (x : Nat) : (s.setRaces x).ntu = s.ntu := rfl
@[simp] theorem State.setRaces_mgr (s : State) (x : Nat) : (s.setRaces x).mgr = s.mgr := rfl
@[simp] theorem State.setRaces_races (s : State) (x : Nat) : (s.setRaces x).races = x := rfl
@[simp] theorem State.setRaces_pending (s : State) (x : Nat) : (s.setRaces x).pending = s.pending := rfl
@[simp] theorem State.setRaces_setRaces (s : State) (x y : Nat) :
    (s.setRaces x).setRaces y = s.setRaces y := rfl
@[simp] theorem State.setRaces_self (s : State) : s.setRaces s.races = s := rfl

/-! ### setPending -/

@[simp] theorem State.setPending_now (s : State) (x : List Instr) : (s.setPending x).now = s.now := rfl
@[simp] theorem State.setPending_hold (s : State) (x : List Instr) : (s.setPending x).hold = s.hold := rfl
@[simp] theorem State.setPending_plant (s : State) (x : List Instr) : (s.setPending x).plant = s.plant := rfl
@[simp] theorem State.setPending_bowl (s : State) (x : List Instr) : (s.setPending x).bowl = s.bowl := rfl
@[simp] theorem State.setPending_supervisor (s : State) (x : List Instr) : (s.setPending x).supervisor = s.supervisor := rfl
@[simp] theorem State.setPending_traffic (s : State) (x : List Instr) : (s.setPending x).traffic = s.traffic := rfl
@[simp] theorem State.setPending_ptw (s : State) (x : List Instr) : (s.setPending x).ptw = s.ptw := rfl
@[simp] theorem State.setPending_fcu (s : State) (x : List Instr) : (s.setPending x).fcu = s.fcu := rfl
@[simp] theorem State.setPending_hau (s : State) (x : List Instr) : (s.setPending x).hau = s.hau := rfl
@[simp] theorem State.setPending_vdu (s : State) (x : List Instr) : (s.setPending x).vdu = s.vdu := rfl
@[simp] theorem State.setPending_cue (s : State) (x : List Instr) : (s.setPending x).cue = s.cue := rfl
@[simp] theorem State.setPending_prf (s : State) (x : List Instr) : (s.setPending x).prf = s.prf := rfl
@[simp] theorem State.setPending_tcu (s : State) (x : List Instr) : (s.setPending x).tcu = s.tcu := rfl
@[simp] theorem State.setPending_ntu (s : State) (x : List Instr) : (s.setPending x).ntu = s.ntu := rfl
@[simp] theorem State.setPending_mgr (s : State) (x : List Instr) : (s.setPending x).mgr = s.mgr := rfl
@[simp] theorem State.setPending_races (s : State) (x : List Instr) : (s.setPending x).races = s.races := rfl
@[simp] theorem State.setPending_pending (s : State) (x : List Instr) : (s.setPending x).pending = x := rfl
@[simp] theorem State.setPending_setPending (s : State) (x y : List Instr) :
    (s.setPending x).setPending y = s.setPending y := rfl
@[simp] theorem State.setPending_self (s : State) : s.setPending s.pending = s := rfl

/-! ### Access by segment and by port -/

@[simp] theorem State.field_plant (s : State) : s.field .plant = s.plant := rfl
@[simp] theorem State.field_bowl (s : State) : s.field .bowl = s.bowl := rfl
@[simp] theorem State.setField_plant (s : State) (x : FieldPort) :
    s.setField .plant x = s.setPlant x := rfl
@[simp] theorem State.setField_bowl (s : State) (x : FieldPort) :
    s.setField .bowl x = s.setBowl x := rfl
@[simp] theorem State.line_plant (s : State) : s.line .plant = s.plant.line := rfl
@[simp] theorem State.line_bowl (s : State) : s.line .bowl = s.bowl.line := rfl
@[simp] theorem State.line_supervisor (s : State) : s.line .supervisor = s.supervisor.line := rfl
@[simp] theorem State.setLine_plant (s : State) (x : Line) :
    s.setLine .plant x = s.setPlant { s.plant with line := x } := rfl
@[simp] theorem State.setLine_bowl (s : State) (x : Line) :
    s.setLine .bowl x = s.setBowl { s.bowl with line := x } := rfl
@[simp] theorem State.setLine_supervisor (s : State) (x : Line) :
    s.setLine .supervisor x = s.setSupervisor { s.supervisor with line := x } := rfl

/-- A port reads back what was set at it. -/
@[simp] theorem State.field_setField (s : State) (g : Segment) (x : FieldPort) :
    (s.setField g x).field g = x := by cases g <;> rfl

/-- A line part reads back what was set at its port. -/
@[simp] theorem State.line_setLine (s : State) (p : Port) (x : Line) :
    (s.setLine p x).line p = x := by cases p <;> rfl

/-- Setting a field port leaves every other block alone. -/
@[simp] theorem State.setField_keeps (s : State) (g : Segment) (x : FieldPort) :
    (s.setField g x).now = s.now
    ∧ (s.setField g x).hold = s.hold
    ∧ (s.setField g x).supervisor = s.supervisor
    ∧ (s.setField g x).traffic = s.traffic
    ∧ (s.setField g x).ptw = s.ptw
    ∧ (s.setField g x).fcu = s.fcu
    ∧ (s.setField g x).hau = s.hau
    ∧ (s.setField g x).vdu = s.vdu
    ∧ (s.setField g x).cue = s.cue
    ∧ (s.setField g x).prf = s.prf
    ∧ (s.setField g x).tcu = s.tcu
    ∧ (s.setField g x).ntu = s.ntu
    ∧ (s.setField g x).mgr = s.mgr
    ∧ (s.setField g x).races = s.races
    ∧ (s.setField g x).pending = s.pending := by
  cases g <;> simp

/-- Setting a line part leaves every block but the ports alone. -/
@[simp] theorem State.setLine_keeps (s : State) (p : Port) (x : Line) :
    (s.setLine p x).now = s.now
    ∧ (s.setLine p x).hold = s.hold
    ∧ (s.setLine p x).traffic = s.traffic
    ∧ (s.setLine p x).ptw = s.ptw
    ∧ (s.setLine p x).fcu = s.fcu
    ∧ (s.setLine p x).hau = s.hau
    ∧ (s.setLine p x).vdu = s.vdu
    ∧ (s.setLine p x).cue = s.cue
    ∧ (s.setLine p x).prf = s.prf
    ∧ (s.setLine p x).tcu = s.tcu
    ∧ (s.setLine p x).ntu = s.ntu
    ∧ (s.setLine p x).mgr = s.mgr
    ∧ (s.setLine p x).races = s.races
    ∧ (s.setLine p x).pending = s.pending := by
  cases p <;> simp

end Sys2Proof.Machine
end

