-- ==== Sys2Proof/Laws/KeepsBlocks.lean ====
section
/-! SUPPORT. What the operations of one block leave alone in the others: for each operation, one lemma whose
parts are rewriting rules. -/

namespace Sys2Proof.Machine

/-- What every step of a fold leaves alone, the fold leaves alone. -/
theorem foldl_keeps {α β : Type} (g : State → β) (f : State → α → State)
    (h : ∀ s a, g (f s a) = g s) (l : List α) (s : State) : g (l.foldl f s) = g s := by
  induction l generalizing s with
  | nil => rfl
  | cons a l ih => rw [List.foldl_cons, ih, h]

@[simp] theorem State.comesAt_keeps (s : State) (t : Nat) :
    (s.comesAt t).hold = s.hold ∧ (s.comesAt t).plant = s.plant ∧ (s.comesAt t).bowl = s.bowl
    ∧ (s.comesAt t).supervisor = s.supervisor ∧ (s.comesAt t).traffic = s.traffic
    ∧ (s.comesAt t).ptw = s.ptw ∧ (s.comesAt t).fcu = s.fcu ∧ (s.comesAt t).hau = s.hau
    ∧ (s.comesAt t).vdu = s.vdu ∧ (s.comesAt t).cue = s.cue ∧ (s.comesAt t).prf = s.prf
    ∧ (s.comesAt t).tcu = s.tcu ∧ (s.comesAt t).ntu = s.ntu ∧ (s.comesAt t).mgr = s.mgr
    ∧ (s.comesAt t).races = s.races ∧ (s.comesAt t).pending = s.pending := by
  simp only [State.comesAt]
  simp

@[simp] theorem State.raise_keeps (s : State) (x : Source) (n : Nat) (d : Int) :
    (s.raise x n d).now = s.now ∧ (s.raise x n d).hold = s.hold ∧ (s.raise x n d).plant = s.plant
    ∧ (s.raise x n d).bowl = s.bowl ∧ (s.raise x n d).supervisor = s.supervisor
    ∧ (s.raise x n d).traffic = s.traffic ∧ (s.raise x n d).ptw = s.ptw
    ∧ (s.raise x n d).fcu = s.fcu ∧ (s.raise x n d).hau = s.hau ∧ (s.raise x n d).vdu = s.vdu
    ∧ (s.raise x n d).cue = s.cue ∧ (s.raise x n d).prf = s.prf ∧ (s.raise x n d).tcu = s.tcu
    ∧ (s.raise x n d).mgr = s.mgr ∧ (s.raise x n d).races = s.races
    ∧ (s.raise x n d).pending = s.pending := by
  simp only [State.raise]
  simp

@[simp] theorem State.judgeAlarm_keeps (s : State) :
    (s.judgeAlarm).now = s.now ∧ (s.judgeAlarm).hold = s.hold ∧ (s.judgeAlarm).plant = s.plant
    ∧ (s.judgeAlarm).bowl = s.bowl ∧ (s.judgeAlarm).supervisor = s.supervisor
    ∧ (s.judgeAlarm).traffic = s.traffic ∧ (s.judgeAlarm).ptw = s.ptw ∧ (s.judgeAlarm).fcu = s.fcu
    ∧ (s.judgeAlarm).hau = s.hau ∧ (s.judgeAlarm).vdu = s.vdu ∧ (s.judgeAlarm).cue = s.cue
    ∧ (s.judgeAlarm).prf = s.prf ∧ (s.judgeAlarm).tcu = s.tcu ∧ (s.judgeAlarm).mgr = s.mgr
    ∧ (s.judgeAlarm).races = s.races ∧ (s.judgeAlarm).pending = s.pending := by
  simp only [State.judgeAlarm]
  simp

@[simp] theorem State.race_keeps (s : State) :
    (s.race.2).now = s.now ∧ (s.race.2).hold = s.hold ∧ (s.race.2).plant = s.plant
    ∧ (s.race.2).bowl = s.bowl ∧ (s.race.2).supervisor = s.supervisor
    ∧ (s.race.2).traffic = s.traffic ∧ (s.race.2).ptw = s.ptw ∧ (s.race.2).fcu = s.fcu
    ∧ (s.race.2).hau = s.hau ∧ (s.race.2).vdu = s.vdu ∧ (s.race.2).cue = s.cue
    ∧ (s.race.2).prf = s.prf ∧ (s.race.2).tcu = s.tcu ∧ (s.race.2).ntu = s.ntu
    ∧ (s.race.2).mgr = s.mgr ∧ (s.race.2).pending = s.pending := by
  simp only [State.race]
  simp

@[simp] theorem State.endCapture_keeps (s : State) (i : Fin 8) (e : EndStatus) :
    (s.endCapture i e).now = s.now ∧ (s.endCapture i e).hold = s.hold
    ∧ (s.endCapture i e).plant = s.plant ∧ (s.endCapture i e).bowl = s.bowl
    ∧ (s.endCapture i e).supervisor = s.supervisor ∧ (s.endCapture i e).traffic = s.traffic
    ∧ (s.endCapture i e).ptw = s.ptw ∧ (s.endCapture i e).fcu = s.fcu
    ∧ (s.endCapture i e).hau = s.hau ∧ (s.endCapture i e).vdu = s.vdu
    ∧ (s.endCapture i e).cue = s.cue ∧ (s.endCapture i e).prf = s.prf
    ∧ (s.endCapture i e).mgr = s.mgr ∧ (s.endCapture i e).races = s.races
    ∧ (s.endCapture i e).pending = s.pending := by
  simp only [State.endCapture]
  (repeat' split) <;> simp

@[simp] theorem State.sampleChannel_keeps (s : State) (o : Origin) (x : Sample) (i : Fin 8) :
    (s.sampleChannel o x i).now = s.now ∧ (s.sampleChannel o x i).hold = s.hold
    ∧ (s.sampleChannel o x i).plant = s.plant ∧ (s.sampleChannel o x i).bowl = s.bowl
    ∧ (s.sampleChannel o x i).supervisor = s.supervisor
    ∧ (s.sampleChannel o x i).traffic = s.traffic ∧ (s.sampleChannel o x i).ptw = s.ptw
    ∧ (s.sampleChannel o x i).fcu = s.fcu ∧ (s.sampleChannel o x i).hau = s.hau
    ∧ (s.sampleChannel o x i).vdu = s.vdu ∧ (s.sampleChannel o x i).cue = s.cue
    ∧ (s.sampleChannel o x i).prf = s.prf ∧ (s.sampleChannel o x i).mgr = s.mgr
    ∧ (s.sampleChannel o x i).races = s.races ∧ (s.sampleChannel o x i).pending = s.pending := by
  simp only [State.sampleChannel]
  (repeat' split) <;> simp

@[simp] theorem State.sample_keeps (s : State) (o : Origin) (v : Int) (q : Quality) :
    (s.sample o v q).now = s.now ∧ (s.sample o v q).hold = s.hold
    ∧ (s.sample o v q).plant = s.plant ∧ (s.sample o v q).bowl = s.bowl
    ∧ (s.sample o v q).supervisor = s.supervisor ∧ (s.sample o v q).traffic = s.traffic
    ∧ (s.sample o v q).ptw = s.ptw ∧ (s.sample o v q).fcu = s.fcu ∧ (s.sample o v q).hau = s.hau
    ∧ (s.sample o v q).vdu = s.vdu ∧ (s.sample o v q).cue = s.cue ∧ (s.sample o v q).prf = s.prf
    ∧ (s.sample o v q).mgr = s.mgr ∧ (s.sample o v q).races = s.races
    ∧ (s.sample o v q).pending = s.pending := by
  exact ⟨foldl_keeps State.now _ (fun _ _ => by simp) _ _,
    foldl_keeps State.hold _ (fun _ _ => by simp) _ _,
    foldl_keeps State.plant _ (fun _ _ => by simp) _ _,
    foldl_keeps State.bowl _ (fun _ _ => by simp) _ _,
    foldl_keeps State.supervisor _ (fun _ _ => by simp) _ _,
    foldl_keeps State.traffic _ (fun _ _ => by simp) _ _,
    foldl_keeps State.ptw _ (fun _ _ => by simp) _ _,
    foldl_keeps State.fcu _ (fun _ _ => by simp) _ _,
    foldl_keeps State.hau _ (fun _ _ => by simp) _ _,
    foldl_keeps State.vdu _ (fun _ _ => by simp) _ _,
    foldl_keeps State.cue _ (fun _ _ => by simp) _ _,
    foldl_keeps State.prf _ (fun _ _ => by simp) _ _,
    foldl_keeps State.mgr _ (fun _ _ => by simp) _ _,
    foldl_keeps State.races _ (fun _ _ => by simp) _ _,
    foldl_keeps State.pending _ (fun _ _ => by simp) _ _⟩

@[simp] theorem State.triggerChannel_keeps (s : State) (k n : Nat) (i : Fin 8) :
    (s.triggerChannel k n i).now = s.now ∧ (s.triggerChannel k n i).hold = s.hold
    ∧ (s.triggerChannel k n i).plant = s.plant ∧ (s.triggerChannel k n i).bowl = s.bowl
    ∧ (s.triggerChannel k n i).supervisor = s.supervisor
    ∧ (s.triggerChannel k n i).traffic = s.traffic ∧ (s.triggerChannel k n i).ptw = s.ptw
    ∧ (s.triggerChannel k n i).fcu = s.fcu ∧ (s.triggerChannel k n i).hau = s.hau
    ∧ (s.triggerChannel k n i).vdu = s.vdu ∧ (s.triggerChannel k n i).cue = s.cue
    ∧ (s.triggerChannel k n i).prf = s.prf ∧ (s.triggerChannel k n i).ntu = s.ntu
    ∧ (s.triggerChannel k n i).mgr = s.mgr ∧ (s.triggerChannel k n i).races = s.races
    ∧ (s.triggerChannel k n i).pending = s.pending := by
  simp only [State.triggerChannel]
  (repeat' split) <;> simp

@[simp] theorem State.stopChannel_keeps (s : State) (p : Fin 256) (i : Fin 8) :
    (s.stopChannel p i).now = s.now ∧ (s.stopChannel p i).hold = s.hold
    ∧ (s.stopChannel p i).plant = s.plant ∧ (s.stopChannel p i).bowl = s.bowl
    ∧ (s.stopChannel p i).supervisor = s.supervisor ∧ (s.stopChannel p i).traffic = s.traffic
    ∧ (s.stopChannel p i).ptw = s.ptw ∧ (s.stopChannel p i).fcu = s.fcu
    ∧ (s.stopChannel p i).hau = s.hau ∧ (s.stopChannel p i).vdu = s.vdu
    ∧ (s.stopChannel p i).cue = s.cue ∧ (s.stopChannel p i).prf = s.prf
    ∧ (s.stopChannel p i).mgr = s.mgr ∧ (s.stopChannel p i).races = s.races
    ∧ (s.stopChannel p i).pending = s.pending := by
  simp only [State.stopChannel]
  (repeat' split) <;> simp

@[simp] theorem State.pointAlarm_keeps (s : State) (p : Fin 256) :
    (s.pointAlarm p).now = s.now ∧ (s.pointAlarm p).hold = s.hold
    ∧ (s.pointAlarm p).plant = s.plant ∧ (s.pointAlarm p).bowl = s.bowl
    ∧ (s.pointAlarm p).supervisor = s.supervisor ∧ (s.pointAlarm p).traffic = s.traffic
    ∧ (s.pointAlarm p).ptw = s.ptw ∧ (s.pointAlarm p).fcu = s.fcu ∧ (s.pointAlarm p).hau = s.hau
    ∧ (s.pointAlarm p).vdu = s.vdu ∧ (s.pointAlarm p).cue = s.cue ∧ (s.pointAlarm p).prf = s.prf
    ∧ (s.pointAlarm p).mgr = s.mgr ∧ (s.pointAlarm p).races = s.races
    ∧ (s.pointAlarm p).pending = s.pending := by
  exact ⟨foldl_keeps State.now _ (fun _ _ => by simp) _ _,
    foldl_keeps State.hold _ (fun _ _ => by simp) _ _,
    foldl_keeps State.plant _ (fun _ _ => by simp) _ _,
    foldl_keeps State.bowl _ (fun _ _ => by simp) _ _,
    foldl_keeps State.supervisor _ (fun _ _ => by simp) _ _,
    foldl_keeps State.traffic _ (fun _ _ => by simp) _ _,
    foldl_keeps State.ptw _ (fun _ _ => by simp) _ _,
    foldl_keeps State.fcu _ (fun _ _ => by simp) _ _,
    foldl_keeps State.hau _ (fun _ _ => by simp) _ _,
    foldl_keeps State.vdu _ (fun _ _ => by simp) _ _,
    foldl_keeps State.cue _ (fun _ _ => by simp) _ _,
    foldl_keeps State.prf _ (fun _ _ => by simp) _ _,
    foldl_keeps State.mgr _ (fun _ _ => by simp) _ _,
    foldl_keeps State.races _ (fun _ _ => by simp) _ _,
    foldl_keeps State.pending _ (fun _ _ => by simp) _ _⟩

@[simp] theorem State.fogTrigger_keeps (s : State) (z : Fin 4) :
    (s.fogTrigger z).now = s.now ∧ (s.fogTrigger z).hold = s.hold
    ∧ (s.fogTrigger z).plant = s.plant ∧ (s.fogTrigger z).bowl = s.bowl
    ∧ (s.fogTrigger z).supervisor = s.supervisor ∧ (s.fogTrigger z).traffic = s.traffic
    ∧ (s.fogTrigger z).ptw = s.ptw ∧ (s.fogTrigger z).fcu = s.fcu ∧ (s.fogTrigger z).hau = s.hau
    ∧ (s.fogTrigger z).vdu = s.vdu ∧ (s.fogTrigger z).cue = s.cue ∧ (s.fogTrigger z).prf = s.prf
    ∧ (s.fogTrigger z).ntu = s.ntu ∧ (s.fogTrigger z).mgr = s.mgr
    ∧ (s.fogTrigger z).races = s.races ∧ (s.fogTrigger z).pending = s.pending := by
  exact ⟨foldl_keeps State.now _ (fun _ _ => by simp) _ _,
    foldl_keeps State.hold _ (fun _ _ => by simp) _ _,
    foldl_keeps State.plant _ (fun _ _ => by simp) _ _,
    foldl_keeps State.bowl _ (fun _ _ => by simp) _ _,
    foldl_keeps State.supervisor _ (fun _ _ => by simp) _ _,
    foldl_keeps State.traffic _ (fun _ _ => by simp) _ _,
    foldl_keeps State.ptw _ (fun _ _ => by simp) _ _,
    foldl_keeps State.fcu _ (fun _ _ => by simp) _ _,
    foldl_keeps State.hau _ (fun _ _ => by simp) _ _,
    foldl_keeps State.vdu _ (fun _ _ => by simp) _ _,
    foldl_keeps State.cue _ (fun _ _ => by simp) _ _,
    foldl_keeps State.prf _ (fun _ _ => by simp) _ _,
    foldl_keeps State.ntu _ (fun _ _ => by simp) _ _,
    foldl_keeps State.mgr _ (fun _ _ => by simp) _ _,
    foldl_keeps State.races _ (fun _ _ => by simp) _ _,
    foldl_keeps State.pending _ (fun _ _ => by simp) _ _⟩

@[simp] theorem State.endRewritten_keeps (s : State) (p : Fin 256) (i : Fin 8) :
    (s.endRewritten p i).now = s.now ∧ (s.endRewritten p i).hold = s.hold
    ∧ (s.endRewritten p i).plant = s.plant ∧ (s.endRewritten p i).bowl = s.bowl
    ∧ (s.endRewritten p i).supervisor = s.supervisor ∧ (s.endRewritten p i).traffic = s.traffic
    ∧ (s.endRewritten p i).ptw = s.ptw ∧ (s.endRewritten p i).fcu = s.fcu
    ∧ (s.endRewritten p i).hau = s.hau ∧ (s.endRewritten p i).vdu = s.vdu
    ∧ (s.endRewritten p i).cue = s.cue ∧ (s.endRewritten p i).prf = s.prf
    ∧ (s.endRewritten p i).mgr = s.mgr ∧ (s.endRewritten p i).races = s.races
    ∧ (s.endRewritten p i).pending = s.pending := by
  simp only [State.endRewritten]
  (repeat' split) <;> simp

@[simp] theorem State.sourceRewritten_keeps (s : State) (p : Fin 256) :
    (s.sourceRewritten p).now = s.now ∧ (s.sourceRewritten p).hold = s.hold
    ∧ (s.sourceRewritten p).plant = s.plant ∧ (s.sourceRewritten p).bowl = s.bowl
    ∧ (s.sourceRewritten p).supervisor = s.supervisor ∧ (s.sourceRewritten p).traffic = s.traffic
    ∧ (s.sourceRewritten p).ptw = s.ptw ∧ (s.sourceRewritten p).fcu = s.fcu
    ∧ (s.sourceRewritten p).hau = s.hau ∧ (s.sourceRewritten p).vdu = s.vdu
    ∧ (s.sourceRewritten p).cue = s.cue ∧ (s.sourceRewritten p).prf = s.prf
    ∧ (s.sourceRewritten p).mgr = s.mgr ∧ (s.sourceRewritten p).races = s.races
    ∧ (s.sourceRewritten p).pending = s.pending := by
  exact ⟨foldl_keeps State.now _ (fun _ _ => by simp) _ _,
    foldl_keeps State.hold _ (fun _ _ => by simp) _ _,
    foldl_keeps State.plant _ (fun _ _ => by simp) _ _,
    foldl_keeps State.bowl _ (fun _ _ => by simp) _ _,
    foldl_keeps State.supervisor _ (fun _ _ => by simp) _ _,
    foldl_keeps State.traffic _ (fun _ _ => by simp) _ _,
    foldl_keeps State.ptw _ (fun _ _ => by simp) _ _,
    foldl_keeps State.fcu _ (fun _ _ => by simp) _ _,
    foldl_keeps State.hau _ (fun _ _ => by simp) _ _,
    foldl_keeps State.vdu _ (fun _ _ => by simp) _ _,
    foldl_keeps State.cue _ (fun _ _ => by simp) _ _,
    foldl_keeps State.prf _ (fun _ _ => by simp) _ _,
    foldl_keeps State.mgr _ (fun _ _ => by simp) _ _,
    foldl_keeps State.races _ (fun _ _ => by simp) _ _,
    foldl_keeps State.pending _ (fun _ _ => by simp) _ _⟩

@[simp] theorem State.changeRuntime_keeps (s : State) (i : Fin 256) (f : PointRuntime → PointRuntime) :
    (s.changeRuntime i f).now = s.now ∧ (s.changeRuntime i f).hold = s.hold
    ∧ (s.changeRuntime i f).plant = s.plant ∧ (s.changeRuntime i f).bowl = s.bowl
    ∧ (s.changeRuntime i f).supervisor = s.supervisor ∧ (s.changeRuntime i f).traffic = s.traffic
    ∧ (s.changeRuntime i f).fcu = s.fcu ∧ (s.changeRuntime i f).hau = s.hau
    ∧ (s.changeRuntime i f).vdu = s.vdu ∧ (s.changeRuntime i f).cue = s.cue
    ∧ (s.changeRuntime i f).prf = s.prf ∧ (s.changeRuntime i f).tcu = s.tcu
    ∧ (s.changeRuntime i f).ntu = s.ntu ∧ (s.changeRuntime i f).mgr = s.mgr
    ∧ (s.changeRuntime i f).races = s.races ∧ (s.changeRuntime i f).pending = s.pending := by
  simp only [State.changeRuntime]
  simp

@[simp] theorem State.rewritePoint_keeps (s : State) (i : Fin 256) (c : PointConfig) :
    (s.rewritePoint i c).now = s.now ∧ (s.rewritePoint i c).hold = s.hold
    ∧ (s.rewritePoint i c).plant = s.plant ∧ (s.rewritePoint i c).bowl = s.bowl
    ∧ (s.rewritePoint i c).supervisor = s.supervisor ∧ (s.rewritePoint i c).traffic = s.traffic
    ∧ (s.rewritePoint i c).fcu = s.fcu ∧ (s.rewritePoint i c).hau = s.hau
    ∧ (s.rewritePoint i c).vdu = s.vdu ∧ (s.rewritePoint i c).cue = s.cue
    ∧ (s.rewritePoint i c).prf = s.prf ∧ (s.rewritePoint i c).mgr = s.mgr
    ∧ (s.rewritePoint i c).races = s.races ∧ (s.rewritePoint i c).pending = s.pending := by
  simp only [State.rewritePoint]
  simp

@[simp] theorem State.arrival_keeps (s : State) (i : Fin 256) (v : Int) :
    (s.arrival i v).now = s.now ∧ (s.arrival i v).hold = s.hold ∧ (s.arrival i v).plant = s.plant
    ∧ (s.arrival i v).bowl = s.bowl ∧ (s.arrival i v).supervisor = s.supervisor
    ∧ (s.arrival i v).traffic = s.traffic ∧ (s.arrival i v).fcu = s.fcu
    ∧ (s.arrival i v).hau = s.hau ∧ (s.arrival i v).vdu = s.vdu ∧ (s.arrival i v).cue = s.cue
    ∧ (s.arrival i v).prf = s.prf ∧ (s.arrival i v).mgr = s.mgr ∧ (s.arrival i v).races = s.races
    ∧ (s.arrival i v).pending = s.pending := by
  simp only [State.arrival]
  (repeat' split) <;> simp

@[simp] theorem State.becomeLost_keeps (s : State) (i : Fin 256) :
    (s.becomeLost i).now = s.now ∧ (s.becomeLost i).hold = s.hold
    ∧ (s.becomeLost i).plant = s.plant ∧ (s.becomeLost i).bowl = s.bowl
    ∧ (s.becomeLost i).supervisor = s.supervisor ∧ (s.becomeLost i).traffic = s.traffic
    ∧ (s.becomeLost i).fcu = s.fcu ∧ (s.becomeLost i).hau = s.hau ∧ (s.becomeLost i).vdu = s.vdu
    ∧ (s.becomeLost i).cue = s.cue ∧ (s.becomeLost i).prf = s.prf ∧ (s.becomeLost i).mgr = s.mgr
    ∧ (s.becomeLost i).races = s.races ∧ (s.becomeLost i).pending = s.pending := by
  simp only [State.becomeLost]
  simp

@[simp] theorem State.becomeStale_keeps (s : State) (i : Fin 256) :
    (s.becomeStale i).now = s.now ∧ (s.becomeStale i).hold = s.hold
    ∧ (s.becomeStale i).plant = s.plant ∧ (s.becomeStale i).bowl = s.bowl
    ∧ (s.becomeStale i).supervisor = s.supervisor ∧ (s.becomeStale i).traffic = s.traffic
    ∧ (s.becomeStale i).fcu = s.fcu ∧ (s.becomeStale i).hau = s.hau
    ∧ (s.becomeStale i).vdu = s.vdu ∧ (s.becomeStale i).cue = s.cue
    ∧ (s.becomeStale i).prf = s.prf ∧ (s.becomeStale i).mgr = s.mgr
    ∧ (s.becomeStale i).races = s.races ∧ (s.becomeStale i).pending = s.pending := by
  simp only [State.becomeStale]
  (repeat' split) <;> simp

@[simp] theorem State.writeRole_keeps (s : State) (r : Nat) (v : Int) :
    (s.writeRole r v).now = s.now ∧ (s.writeRole r v).hold = s.hold
    ∧ (s.writeRole r v).plant = s.plant ∧ (s.writeRole r v).bowl = s.bowl
    ∧ (s.writeRole r v).supervisor = s.supervisor ∧ (s.writeRole r v).traffic = s.traffic
    ∧ (s.writeRole r v).fcu = s.fcu ∧ (s.writeRole r v).hau = s.hau
    ∧ (s.writeRole r v).vdu = s.vdu ∧ (s.writeRole r v).cue = s.cue
    ∧ (s.writeRole r v).prf = s.prf ∧ (s.writeRole r v).tcu = s.tcu
    ∧ (s.writeRole r v).ntu = s.ntu ∧ (s.writeRole r v).mgr = s.mgr
    ∧ (s.writeRole r v).races = s.races ∧ (s.writeRole r v).pending = s.pending := by
  simp only [State.writeRole]
  (repeat' split) <;> simp

@[simp] theorem State.endOverride_keeps (s : State) (i : Fin 256) :
    (s.endOverride i).now = s.now ∧ (s.endOverride i).hold = s.hold
    ∧ (s.endOverride i).plant = s.plant ∧ (s.endOverride i).bowl = s.bowl
    ∧ (s.endOverride i).supervisor = s.supervisor ∧ (s.endOverride i).traffic = s.traffic
    ∧ (s.endOverride i).fcu = s.fcu ∧ (s.endOverride i).hau = s.hau
    ∧ (s.endOverride i).vdu = s.vdu ∧ (s.endOverride i).cue = s.cue
    ∧ (s.endOverride i).prf = s.prf ∧ (s.endOverride i).tcu = s.tcu
    ∧ (s.endOverride i).mgr = s.mgr ∧ (s.endOverride i).races = s.races
    ∧ (s.endOverride i).pending = s.pending := by
  simp only [State.endOverride]
  (repeat' split) <;> simp

@[simp] theorem State.filterEntry_keeps (s : State) (a b : Nat) :
    ((s.filterEntry a b).2).now = s.now ∧ ((s.filterEntry a b).2).hold = s.hold
    ∧ ((s.filterEntry a b).2).plant = s.plant ∧ ((s.filterEntry a b).2).bowl = s.bowl
    ∧ ((s.filterEntry a b).2).supervisor = s.supervisor
    ∧ ((s.filterEntry a b).2).traffic = s.traffic ∧ ((s.filterEntry a b).2).fcu = s.fcu
    ∧ ((s.filterEntry a b).2).hau = s.hau ∧ ((s.filterEntry a b).2).vdu = s.vdu
    ∧ ((s.filterEntry a b).2).cue = s.cue ∧ ((s.filterEntry a b).2).prf = s.prf
    ∧ ((s.filterEntry a b).2).tcu = s.tcu ∧ ((s.filterEntry a b).2).mgr = s.mgr
    ∧ ((s.filterEntry a b).2).races = s.races ∧ ((s.filterEntry a b).2).pending = s.pending := by
  simp only [State.filterEntry]
  (repeat' split) <;> simp

@[simp] theorem State.setValve_keeps (s : State) (c : Fin 4) (v : Valve) :
    (s.setValve c v).now = s.now ∧ (s.setValve c v).hold = s.hold
    ∧ (s.setValve c v).plant = s.plant ∧ (s.setValve c v).bowl = s.bowl
    ∧ (s.setValve c v).supervisor = s.supervisor ∧ (s.setValve c v).traffic = s.traffic
    ∧ (s.setValve c v).ptw = s.ptw ∧ (s.setValve c v).fcu = s.fcu ∧ (s.setValve c v).hau = s.hau
    ∧ (s.setValve c v).cue = s.cue ∧ (s.setValve c v).prf = s.prf ∧ (s.setValve c v).tcu = s.tcu
    ∧ (s.setValve c v).ntu = s.ntu ∧ (s.setValve c v).mgr = s.mgr
    ∧ (s.setValve c v).races = s.races ∧ (s.setValve c v).pending = s.pending := by
  simp only [State.setValve]
  simp

@[simp] theorem State.samplePosition_keeps (s : State) (c : Fin 4) (q : Quality) :
    (s.samplePosition c q).now = s.now ∧ (s.samplePosition c q).hold = s.hold
    ∧ (s.samplePosition c q).plant = s.plant ∧ (s.samplePosition c q).bowl = s.bowl
    ∧ (s.samplePosition c q).supervisor = s.supervisor
    ∧ (s.samplePosition c q).traffic = s.traffic ∧ (s.samplePosition c q).ptw = s.ptw
    ∧ (s.samplePosition c q).fcu = s.fcu ∧ (s.samplePosition c q).hau = s.hau
    ∧ (s.samplePosition c q).vdu = s.vdu ∧ (s.samplePosition c q).cue = s.cue
    ∧ (s.samplePosition c q).prf = s.prf ∧ (s.samplePosition c q).mgr = s.mgr
    ∧ (s.samplePosition c q).races = s.races ∧ (s.samplePosition c q).pending = s.pending := by
  simp only [State.samplePosition]
  simp

@[simp] theorem State.raiseDone_keeps (s : State) (c : Fin 4) :
    (s.raiseDone c).now = s.now ∧ (s.raiseDone c).hold = s.hold ∧ (s.raiseDone c).plant = s.plant
    ∧ (s.raiseDone c).bowl = s.bowl ∧ (s.raiseDone c).supervisor = s.supervisor
    ∧ (s.raiseDone c).traffic = s.traffic ∧ (s.raiseDone c).ptw = s.ptw
    ∧ (s.raiseDone c).fcu = s.fcu ∧ (s.raiseDone c).hau = s.hau ∧ (s.raiseDone c).vdu = s.vdu
    ∧ (s.raiseDone c).cue = s.cue ∧ (s.raiseDone c).prf = s.prf ∧ (s.raiseDone c).tcu = s.tcu
    ∧ (s.raiseDone c).mgr = s.mgr ∧ (s.raiseDone c).races = s.races
    ∧ (s.raiseDone c).pending = s.pending := by
  simp only [State.raiseDone]
  (repeat' split) <;> simp

@[simp] theorem State.finishHome_keeps (s : State) (c : Fin 4) :
    (s.finishHome c).now = s.now ∧ (s.finishHome c).hold = s.hold
    ∧ (s.finishHome c).plant = s.plant ∧ (s.finishHome c).bowl = s.bowl
    ∧ (s.finishHome c).supervisor = s.supervisor ∧ (s.finishHome c).traffic = s.traffic
    ∧ (s.finishHome c).ptw = s.ptw ∧ (s.finishHome c).fcu = s.fcu ∧ (s.finishHome c).hau = s.hau
    ∧ (s.finishHome c).cue = s.cue ∧ (s.finishHome c).prf = s.prf ∧ (s.finishHome c).mgr = s.mgr
    ∧ (s.finishHome c).races = s.races ∧ (s.finishHome c).pending = s.pending := by
  simp only [State.finishHome]
  (repeat' split) <;> simp

@[simp] theorem State.seatHome_keeps (s : State) (c : Fin 4) :
    (s.seatHome c).now = s.now ∧ (s.seatHome c).hold = s.hold ∧ (s.seatHome c).plant = s.plant
    ∧ (s.seatHome c).bowl = s.bowl ∧ (s.seatHome c).supervisor = s.supervisor
    ∧ (s.seatHome c).traffic = s.traffic ∧ (s.seatHome c).ptw = s.ptw ∧ (s.seatHome c).fcu = s.fcu
    ∧ (s.seatHome c).hau = s.hau ∧ (s.seatHome c).cue = s.cue ∧ (s.seatHome c).prf = s.prf
    ∧ (s.seatHome c).mgr = s.mgr ∧ (s.seatHome c).races = s.races
    ∧ (s.seatHome c).pending = s.pending := by
  simp only [State.seatHome]
  (repeat' split) <;> simp

@[simp] theorem State.startHome_keeps (s : State) (c : Fin 4) :
    (s.startHome c).now = s.now ∧ (s.startHome c).hold = s.hold ∧ (s.startHome c).plant = s.plant
    ∧ (s.startHome c).bowl = s.bowl ∧ (s.startHome c).supervisor = s.supervisor
    ∧ (s.startHome c).traffic = s.traffic ∧ (s.startHome c).ptw = s.ptw
    ∧ (s.startHome c).fcu = s.fcu ∧ (s.startHome c).hau = s.hau ∧ (s.startHome c).cue = s.cue
    ∧ (s.startHome c).prf = s.prf ∧ (s.startHome c).mgr = s.mgr ∧ (s.startHome c).races = s.races
    ∧ (s.startHome c).pending = s.pending := by
  simp only [State.startHome]
  (repeat' split) <;> simp

@[simp] theorem State.autoHome_keeps (s : State) (c : Fin 4) :
    (s.autoHome c).now = s.now ∧ (s.autoHome c).hold = s.hold ∧ (s.autoHome c).plant = s.plant
    ∧ (s.autoHome c).bowl = s.bowl ∧ (s.autoHome c).supervisor = s.supervisor
    ∧ (s.autoHome c).traffic = s.traffic ∧ (s.autoHome c).ptw = s.ptw ∧ (s.autoHome c).fcu = s.fcu
    ∧ (s.autoHome c).hau = s.hau ∧ (s.autoHome c).cue = s.cue ∧ (s.autoHome c).prf = s.prf
    ∧ (s.autoHome c).mgr = s.mgr ∧ (s.autoHome c).races = s.races
    ∧ (s.autoHome c).pending = s.pending := by
  simp only [State.autoHome]
  (repeat' split) <;> simp

@[simp] theorem State.enterUnhomed_keeps (s : State) (c : Fin 4) :
    (s.enterUnhomed c).now = s.now ∧ (s.enterUnhomed c).hold = s.hold
    ∧ (s.enterUnhomed c).plant = s.plant ∧ (s.enterUnhomed c).bowl = s.bowl
    ∧ (s.enterUnhomed c).supervisor = s.supervisor ∧ (s.enterUnhomed c).traffic = s.traffic
    ∧ (s.enterUnhomed c).ptw = s.ptw ∧ (s.enterUnhomed c).fcu = s.fcu
    ∧ (s.enterUnhomed c).hau = s.hau ∧ (s.enterUnhomed c).cue = s.cue
    ∧ (s.enterUnhomed c).prf = s.prf ∧ (s.enterUnhomed c).mgr = s.mgr
    ∧ (s.enterUnhomed c).races = s.races ∧ (s.enterUnhomed c).pending = s.pending := by
  simp only [State.enterUnhomed]
  simp

@[simp] theorem State.endSettling_keeps (s : State) (c : Fin 4) :
    (s.endSettling c).now = s.now ∧ (s.endSettling c).hold = s.hold
    ∧ (s.endSettling c).plant = s.plant ∧ (s.endSettling c).bowl = s.bowl
    ∧ (s.endSettling c).supervisor = s.supervisor ∧ (s.endSettling c).traffic = s.traffic
    ∧ (s.endSettling c).ptw = s.ptw ∧ (s.endSettling c).fcu = s.fcu
    ∧ (s.endSettling c).hau = s.hau ∧ (s.endSettling c).cue = s.cue
    ∧ (s.endSettling c).prf = s.prf ∧ (s.endSettling c).mgr = s.mgr
    ∧ (s.endSettling c).races = s.races ∧ (s.endSettling c).pending = s.pending := by
  simp only [State.endSettling]
  (repeat' split) <;> simp

@[simp] theorem State.enterSettling_keeps (s : State) (c : Fin 4) :
    (s.enterSettling c).now = s.now ∧ (s.enterSettling c).hold = s.hold
    ∧ (s.enterSettling c).plant = s.plant ∧ (s.enterSettling c).bowl = s.bowl
    ∧ (s.enterSettling c).supervisor = s.supervisor ∧ (s.enterSettling c).traffic = s.traffic
    ∧ (s.enterSettling c).ptw = s.ptw ∧ (s.enterSettling c).fcu = s.fcu
    ∧ (s.enterSettling c).hau = s.hau ∧ (s.enterSettling c).cue = s.cue
    ∧ (s.enterSettling c).prf = s.prf ∧ (s.enterSettling c).mgr = s.mgr
    ∧ (s.enterSettling c).races = s.races ∧ (s.enterSettling c).pending = s.pending := by
  simp only [State.enterSettling]
  (repeat' split) <;> simp

@[simp] theorem State.completeHome_keeps (s : State) (c : Fin 4) :
    (s.completeHome c).now = s.now ∧ (s.completeHome c).hold = s.hold
    ∧ (s.completeHome c).plant = s.plant ∧ (s.completeHome c).bowl = s.bowl
    ∧ (s.completeHome c).supervisor = s.supervisor ∧ (s.completeHome c).traffic = s.traffic
    ∧ (s.completeHome c).ptw = s.ptw ∧ (s.completeHome c).fcu = s.fcu
    ∧ (s.completeHome c).hau = s.hau ∧ (s.completeHome c).cue = s.cue
    ∧ (s.completeHome c).prf = s.prf ∧ (s.completeHome c).mgr = s.mgr
    ∧ (s.completeHome c).races = s.races ∧ (s.completeHome c).pending = s.pending := by
  simp only [State.completeHome]
  simp

@[simp] theorem State.valveFault_keeps (s : State) (c : Fin 4) (k : FaultCause) (d : Int) :
    (s.valveFault c k d).now = s.now ∧ (s.valveFault c k d).hold = s.hold
    ∧ (s.valveFault c k d).plant = s.plant ∧ (s.valveFault c k d).bowl = s.bowl
    ∧ (s.valveFault c k d).supervisor = s.supervisor ∧ (s.valveFault c k d).traffic = s.traffic
    ∧ (s.valveFault c k d).ptw = s.ptw ∧ (s.valveFault c k d).fcu = s.fcu
    ∧ (s.valveFault c k d).hau = s.hau ∧ (s.valveFault c k d).cue = s.cue
    ∧ (s.valveFault c k d).prf = s.prf ∧ (s.valveFault c k d).tcu = s.tcu
    ∧ (s.valveFault c k d).mgr = s.mgr ∧ (s.valveFault c k d).races = s.races
    ∧ (s.valveFault c k d).pending = s.pending := by
  simp only [State.valveFault]
  simp

@[simp] theorem State.valveTarget_keeps (s : State) (c : Fin 4) (t : Nat) :
    (s.valveTarget c t).now = s.now ∧ (s.valveTarget c t).hold = s.hold
    ∧ (s.valveTarget c t).plant = s.plant ∧ (s.valveTarget c t).bowl = s.bowl
    ∧ (s.valveTarget c t).supervisor = s.supervisor ∧ (s.valveTarget c t).traffic = s.traffic
    ∧ (s.valveTarget c t).ptw = s.ptw ∧ (s.valveTarget c t).fcu = s.fcu
    ∧ (s.valveTarget c t).hau = s.hau ∧ (s.valveTarget c t).cue = s.cue
    ∧ (s.valveTarget c t).prf = s.prf ∧ (s.valveTarget c t).tcu = s.tcu
    ∧ (s.valveTarget c t).ntu = s.ntu ∧ (s.valveTarget c t).mgr = s.mgr
    ∧ (s.valveTarget c t).races = s.races ∧ (s.valveTarget c t).pending = s.pending := by
  simp only [State.valveTarget]
  (repeat' split) <;> simp

@[simp] theorem State.seekStepEnd_keeps (s : State) (c : Fin 4) :
    (s.seekStepEnd c).hold = s.hold ∧ (s.seekStepEnd c).plant = s.plant
    ∧ (s.seekStepEnd c).bowl = s.bowl ∧ (s.seekStepEnd c).supervisor = s.supervisor
    ∧ (s.seekStepEnd c).traffic = s.traffic ∧ (s.seekStepEnd c).ptw = s.ptw
    ∧ (s.seekStepEnd c).fcu = s.fcu ∧ (s.seekStepEnd c).hau = s.hau
    ∧ (s.seekStepEnd c).cue = s.cue ∧ (s.seekStepEnd c).prf = s.prf
    ∧ (s.seekStepEnd c).mgr = s.mgr ∧ (s.seekStepEnd c).races = s.races
    ∧ (s.seekStepEnd c).pending = s.pending := by
  simp only [State.seekStepEnd]
  (repeat' split) <;> simp

@[simp] theorem State.searchStepEnd_keeps (s : State) (c : Fin 4) :
    (s.searchStepEnd c).hold = s.hold ∧ (s.searchStepEnd c).plant = s.plant
    ∧ (s.searchStepEnd c).bowl = s.bowl ∧ (s.searchStepEnd c).supervisor = s.supervisor
    ∧ (s.searchStepEnd c).traffic = s.traffic ∧ (s.searchStepEnd c).ptw = s.ptw
    ∧ (s.searchStepEnd c).fcu = s.fcu ∧ (s.searchStepEnd c).hau = s.hau
    ∧ (s.searchStepEnd c).cue = s.cue ∧ (s.searchStepEnd c).prf = s.prf
    ∧ (s.searchStepEnd c).mgr = s.mgr ∧ (s.searchStepEnd c).races = s.races
    ∧ (s.searchStepEnd c).pending = s.pending := by
  simp only [State.searchStepEnd]
  (repeat' split) <;> simp

@[simp] theorem State.seatStepEnd_keeps (s : State) (c : Fin 4) :
    (s.seatStepEnd c).hold = s.hold ∧ (s.seatStepEnd c).plant = s.plant
    ∧ (s.seatStepEnd c).bowl = s.bowl ∧ (s.seatStepEnd c).supervisor = s.supervisor
    ∧ (s.seatStepEnd c).traffic = s.traffic ∧ (s.seatStepEnd c).ptw = s.ptw
    ∧ (s.seatStepEnd c).fcu = s.fcu ∧ (s.seatStepEnd c).hau = s.hau
    ∧ (s.seatStepEnd c).cue = s.cue ∧ (s.seatStepEnd c).prf = s.prf
    ∧ (s.seatStepEnd c).mgr = s.mgr ∧ (s.seatStepEnd c).races = s.races
    ∧ (s.seatStepEnd c).pending = s.pending := by
  simp only [State.seatStepEnd]
  (repeat' split) <;> simp

@[simp] theorem State.settleEnd_keeps (s : State) (c : Fin 4) :
    (s.settleEnd c).hold = s.hold ∧ (s.settleEnd c).plant = s.plant
    ∧ (s.settleEnd c).bowl = s.bowl ∧ (s.settleEnd c).supervisor = s.supervisor
    ∧ (s.settleEnd c).traffic = s.traffic ∧ (s.settleEnd c).ptw = s.ptw
    ∧ (s.settleEnd c).fcu = s.fcu ∧ (s.settleEnd c).hau = s.hau ∧ (s.settleEnd c).cue = s.cue
    ∧ (s.settleEnd c).prf = s.prf ∧ (s.settleEnd c).mgr = s.mgr ∧ (s.settleEnd c).races = s.races
    ∧ (s.settleEnd c).pending = s.pending := by
  simp only [State.settleEnd]
  (repeat' split) <;> simp

@[simp] theorem State.earlyClose_keeps (s : State) (c : Fin 4) :
    (s.earlyClose c).now = s.now ∧ (s.earlyClose c).hold = s.hold
    ∧ (s.earlyClose c).plant = s.plant ∧ (s.earlyClose c).bowl = s.bowl
    ∧ (s.earlyClose c).supervisor = s.supervisor ∧ (s.earlyClose c).traffic = s.traffic
    ∧ (s.earlyClose c).ptw = s.ptw ∧ (s.earlyClose c).fcu = s.fcu ∧ (s.earlyClose c).hau = s.hau
    ∧ (s.earlyClose c).cue = s.cue ∧ (s.earlyClose c).prf = s.prf ∧ (s.earlyClose c).mgr = s.mgr
    ∧ (s.earlyClose c).races = s.races ∧ (s.earlyClose c).pending = s.pending := by
  simp only [State.earlyClose]
  simp

@[simp] theorem State.stopMismatch_keeps (s : State) (c : Fin 4) :
    (s.stopMismatch c).now = s.now ∧ (s.stopMismatch c).hold = s.hold
    ∧ (s.stopMismatch c).plant = s.plant ∧ (s.stopMismatch c).bowl = s.bowl
    ∧ (s.stopMismatch c).supervisor = s.supervisor ∧ (s.stopMismatch c).traffic = s.traffic
    ∧ (s.stopMismatch c).ptw = s.ptw ∧ (s.stopMismatch c).fcu = s.fcu
    ∧ (s.stopMismatch c).hau = s.hau ∧ (s.stopMismatch c).cue = s.cue
    ∧ (s.stopMismatch c).prf = s.prf ∧ (s.stopMismatch c).mgr = s.mgr
    ∧ (s.stopMismatch c).races = s.races ∧ (s.stopMismatch c).pending = s.pending := by
  simp only [State.stopMismatch]
  simp

@[simp] theorem State.closedActs_keeps (s : State) (c : Fin 4) :
    (s.closedActs c).now = s.now ∧ (s.closedActs c).hold = s.hold
    ∧ (s.closedActs c).plant = s.plant ∧ (s.closedActs c).bowl = s.bowl
    ∧ (s.closedActs c).supervisor = s.supervisor ∧ (s.closedActs c).traffic = s.traffic
    ∧ (s.closedActs c).ptw = s.ptw ∧ (s.closedActs c).fcu = s.fcu ∧ (s.closedActs c).hau = s.hau
    ∧ (s.closedActs c).cue = s.cue ∧ (s.closedActs c).prf = s.prf ∧ (s.closedActs c).mgr = s.mgr
    ∧ (s.closedActs c).races = s.races ∧ (s.closedActs c).pending = s.pending := by
  simp only [State.closedActs]
  (repeat' split) <;> simp

@[simp] theorem State.closedAssert_keeps (s : State) (c : Fin 4) :
    (s.closedAssert c).now = s.now ∧ (s.closedAssert c).hold = s.hold
    ∧ (s.closedAssert c).plant = s.plant ∧ (s.closedAssert c).bowl = s.bowl
    ∧ (s.closedAssert c).supervisor = s.supervisor ∧ (s.closedAssert c).traffic = s.traffic
    ∧ (s.closedAssert c).ptw = s.ptw ∧ (s.closedAssert c).fcu = s.fcu
    ∧ (s.closedAssert c).hau = s.hau ∧ (s.closedAssert c).cue = s.cue
    ∧ (s.closedAssert c).prf = s.prf ∧ (s.closedAssert c).mgr = s.mgr
    ∧ (s.closedAssert c).races = s.races ∧ (s.closedAssert c).pending = s.pending := by
  simp only [State.closedAssert]
  (repeat' split) <;> simp

@[simp] theorem State.closedRelease_keeps (s : State) (c : Fin 4) :
    (s.closedRelease c).now = s.now ∧ (s.closedRelease c).hold = s.hold
    ∧ (s.closedRelease c).plant = s.plant ∧ (s.closedRelease c).bowl = s.bowl
    ∧ (s.closedRelease c).supervisor = s.supervisor ∧ (s.closedRelease c).traffic = s.traffic
    ∧ (s.closedRelease c).ptw = s.ptw ∧ (s.closedRelease c).fcu = s.fcu
    ∧ (s.closedRelease c).hau = s.hau ∧ (s.closedRelease c).cue = s.cue
    ∧ (s.closedRelease c).prf = s.prf ∧ (s.closedRelease c).tcu = s.tcu
    ∧ (s.closedRelease c).ntu = s.ntu ∧ (s.closedRelease c).mgr = s.mgr
    ∧ (s.closedRelease c).races = s.races ∧ (s.closedRelease c).pending = s.pending := by
  simp only [State.closedRelease]
  simp

@[simp] theorem State.manAssert_keeps (s : State) (c : Fin 4) :
    (s.manAssert c).now = s.now ∧ (s.manAssert c).hold = s.hold ∧ (s.manAssert c).plant = s.plant
    ∧ (s.manAssert c).bowl = s.bowl ∧ (s.manAssert c).supervisor = s.supervisor
    ∧ (s.manAssert c).traffic = s.traffic ∧ (s.manAssert c).ptw = s.ptw
    ∧ (s.manAssert c).fcu = s.fcu ∧ (s.manAssert c).hau = s.hau ∧ (s.manAssert c).cue = s.cue
    ∧ (s.manAssert c).prf = s.prf ∧ (s.manAssert c).tcu = s.tcu ∧ (s.manAssert c).ntu = s.ntu
    ∧ (s.manAssert c).mgr = s.mgr ∧ (s.manAssert c).races = s.races
    ∧ (s.manAssert c).pending = s.pending := by
  simp only [State.manAssert]
  (repeat' split) <;> simp

@[simp] theorem State.manRelease_keeps (s : State) (c : Fin 4) :
    (s.manRelease c).now = s.now ∧ (s.manRelease c).hold = s.hold
    ∧ (s.manRelease c).plant = s.plant ∧ (s.manRelease c).bowl = s.bowl
    ∧ (s.manRelease c).supervisor = s.supervisor ∧ (s.manRelease c).traffic = s.traffic
    ∧ (s.manRelease c).ptw = s.ptw ∧ (s.manRelease c).fcu = s.fcu ∧ (s.manRelease c).hau = s.hau
    ∧ (s.manRelease c).cue = s.cue ∧ (s.manRelease c).prf = s.prf ∧ (s.manRelease c).mgr = s.mgr
    ∧ (s.manRelease c).races = s.races ∧ (s.manRelease c).pending = s.pending := by
  simp only [State.manRelease]
  (repeat' split) <;> simp

@[simp] theorem State.dfltAssert_keeps (s : State) (c : Fin 4) :
    (s.dfltAssert c).now = s.now ∧ (s.dfltAssert c).hold = s.hold
    ∧ (s.dfltAssert c).plant = s.plant ∧ (s.dfltAssert c).bowl = s.bowl
    ∧ (s.dfltAssert c).supervisor = s.supervisor ∧ (s.dfltAssert c).traffic = s.traffic
    ∧ (s.dfltAssert c).ptw = s.ptw ∧ (s.dfltAssert c).fcu = s.fcu ∧ (s.dfltAssert c).hau = s.hau
    ∧ (s.dfltAssert c).cue = s.cue ∧ (s.dfltAssert c).prf = s.prf ∧ (s.dfltAssert c).tcu = s.tcu
    ∧ (s.dfltAssert c).mgr = s.mgr ∧ (s.dfltAssert c).races = s.races
    ∧ (s.dfltAssert c).pending = s.pending := by
  simp only [State.dfltAssert]
  (repeat' split) <;> simp

@[simp] theorem State.dfltRelease_keeps (s : State) (c : Fin 4) :
    (s.dfltRelease c).now = s.now ∧ (s.dfltRelease c).hold = s.hold
    ∧ (s.dfltRelease c).plant = s.plant ∧ (s.dfltRelease c).bowl = s.bowl
    ∧ (s.dfltRelease c).supervisor = s.supervisor ∧ (s.dfltRelease c).traffic = s.traffic
    ∧ (s.dfltRelease c).ptw = s.ptw ∧ (s.dfltRelease c).fcu = s.fcu
    ∧ (s.dfltRelease c).hau = s.hau ∧ (s.dfltRelease c).cue = s.cue
    ∧ (s.dfltRelease c).prf = s.prf ∧ (s.dfltRelease c).tcu = s.tcu
    ∧ (s.dfltRelease c).ntu = s.ntu ∧ (s.dfltRelease c).mgr = s.mgr
    ∧ (s.dfltRelease c).races = s.races ∧ (s.dfltRelease c).pending = s.pending := by
  simp only [State.dfltRelease]
  simp

@[simp] theorem State.judgeCleared_keeps (s : State) (c : Fin 4) :
    ((s.judgeCleared c).2).now = s.now ∧ ((s.judgeCleared c).2).hold = s.hold
    ∧ ((s.judgeCleared c).2).plant = s.plant ∧ ((s.judgeCleared c).2).bowl = s.bowl
    ∧ ((s.judgeCleared c).2).supervisor = s.supervisor
    ∧ ((s.judgeCleared c).2).traffic = s.traffic ∧ ((s.judgeCleared c).2).ptw = s.ptw
    ∧ ((s.judgeCleared c).2).fcu = s.fcu ∧ ((s.judgeCleared c).2).hau = s.hau
    ∧ ((s.judgeCleared c).2).cue = s.cue ∧ ((s.judgeCleared c).2).prf = s.prf
    ∧ ((s.judgeCleared c).2).mgr = s.mgr ∧ ((s.judgeCleared c).2).races = s.races
    ∧ ((s.judgeCleared c).2).pending = s.pending := by
  simp only [State.judgeCleared]
  (repeat' split) <;> simp

@[simp] theorem State.placeValve_keeps (s : State) (c : Fin 4) :
    (s.placeValve c).now = s.now ∧ (s.placeValve c).hold = s.hold
    ∧ (s.placeValve c).plant = s.plant ∧ (s.placeValve c).bowl = s.bowl
    ∧ (s.placeValve c).supervisor = s.supervisor ∧ (s.placeValve c).traffic = s.traffic
    ∧ (s.placeValve c).ptw = s.ptw ∧ (s.placeValve c).fcu = s.fcu ∧ (s.placeValve c).hau = s.hau
    ∧ (s.placeValve c).cue = s.cue ∧ (s.placeValve c).prf = s.prf
    ∧ (s.placeValve c).mgr = s.mgr ∧ (s.placeValve c).races = s.races
    ∧ (s.placeValve c).pending = s.pending := by
  simp only [State.placeValve]
  (repeat' split) <;> simp

@[simp] theorem State.placeAll_keeps (s : State) (l : List (Fin 4)) :
    (l.foldl State.placeValve s).now = s.now ∧ (l.foldl State.placeValve s).hold = s.hold
    ∧ (l.foldl State.placeValve s).plant = s.plant ∧ (l.foldl State.placeValve s).bowl = s.bowl
    ∧ (l.foldl State.placeValve s).supervisor = s.supervisor
    ∧ (l.foldl State.placeValve s).traffic = s.traffic ∧ (l.foldl State.placeValve s).ptw = s.ptw
    ∧ (l.foldl State.placeValve s).fcu = s.fcu ∧ (l.foldl State.placeValve s).hau = s.hau
    ∧ (l.foldl State.placeValve s).cue = s.cue ∧ (l.foldl State.placeValve s).prf = s.prf
    ∧ (l.foldl State.placeValve s).mgr = s.mgr
    ∧ (l.foldl State.placeValve s).races = s.races
    ∧ (l.foldl State.placeValve s).pending = s.pending := by
  exact ⟨foldl_keeps State.now _ (fun _ _ => by simp) _ _,
    foldl_keeps State.hold _ (fun _ _ => by simp) _ _,
    foldl_keeps State.plant _ (fun _ _ => by simp) _ _,
    foldl_keeps State.bowl _ (fun _ _ => by simp) _ _,
    foldl_keeps State.supervisor _ (fun _ _ => by simp) _ _,
    foldl_keeps State.traffic _ (fun _ _ => by simp) _ _,
    foldl_keeps State.ptw _ (fun _ _ => by simp) _ _,
    foldl_keeps State.fcu _ (fun _ _ => by simp) _ _,
    foldl_keeps State.hau _ (fun _ _ => by simp) _ _,
    foldl_keeps State.cue _ (fun _ _ => by simp) _ _,
    foldl_keeps State.prf _ (fun _ _ => by simp) _ _,
    foldl_keeps State.mgr _ (fun _ _ => by simp) _ _,
    foldl_keeps State.races _ (fun _ _ => by simp) _ _,
    foldl_keeps State.pending _ (fun _ _ => by simp) _ _⟩

@[simp] theorem State.placeLines_keeps (s : State) :
    (s.placeLines).hold = s.hold ∧ (s.placeLines).plant = s.plant ∧ (s.placeLines).bowl = s.bowl
    ∧ (s.placeLines).supervisor = s.supervisor ∧ (s.placeLines).traffic = s.traffic
    ∧ (s.placeLines).ptw = s.ptw ∧ (s.placeLines).fcu = s.fcu ∧ (s.placeLines).hau = s.hau
    ∧ (s.placeLines).cue = s.cue ∧ (s.placeLines).prf = s.prf
    ∧ (s.placeLines).mgr = s.mgr ∧ (s.placeLines).races = s.races
    ∧ (s.placeLines).pending = s.pending := by
  simp only [State.placeLines]
  (repeat' split) <;> simp

@[simp] theorem State.readLines_keeps (s : State) (c : Fin 4) :
    (s.readLines c).now = s.now ∧ (s.readLines c).hold = s.hold ∧ (s.readLines c).plant = s.plant
    ∧ (s.readLines c).bowl = s.bowl ∧ (s.readLines c).supervisor = s.supervisor
    ∧ (s.readLines c).traffic = s.traffic ∧ (s.readLines c).ptw = s.ptw
    ∧ (s.readLines c).fcu = s.fcu ∧ (s.readLines c).hau = s.hau ∧ (s.readLines c).cue = s.cue
    ∧ (s.readLines c).prf = s.prf ∧ (s.readLines c).mgr = s.mgr ∧ (s.readLines c).races = s.races
    ∧ (s.readLines c).pending = s.pending := by
  simp only [State.readLines]
  (repeat' split) <;> simp

@[simp] theorem State.readEach_keeps (s : State) (l : List (Fin 4)) :
    (l.foldl State.readLines s).now = s.now ∧ (l.foldl State.readLines s).hold = s.hold
    ∧ (l.foldl State.readLines s).plant = s.plant ∧ (l.foldl State.readLines s).bowl = s.bowl
    ∧ (l.foldl State.readLines s).supervisor = s.supervisor
    ∧ (l.foldl State.readLines s).traffic = s.traffic ∧ (l.foldl State.readLines s).ptw = s.ptw
    ∧ (l.foldl State.readLines s).fcu = s.fcu ∧ (l.foldl State.readLines s).hau = s.hau
    ∧ (l.foldl State.readLines s).cue = s.cue ∧ (l.foldl State.readLines s).prf = s.prf
    ∧ (l.foldl State.readLines s).mgr = s.mgr ∧ (l.foldl State.readLines s).races = s.races
    ∧ (l.foldl State.readLines s).pending = s.pending := by
  exact ⟨foldl_keeps State.now _ (fun _ _ => by simp) _ _,
    foldl_keeps State.hold _ (fun _ _ => by simp) _ _,
    foldl_keeps State.plant _ (fun _ _ => by simp) _ _,
    foldl_keeps State.bowl _ (fun _ _ => by simp) _ _,
    foldl_keeps State.supervisor _ (fun _ _ => by simp) _ _,
    foldl_keeps State.traffic _ (fun _ _ => by simp) _ _,
    foldl_keeps State.ptw _ (fun _ _ => by simp) _ _,
    foldl_keeps State.fcu _ (fun _ _ => by simp) _ _,
    foldl_keeps State.hau _ (fun _ _ => by simp) _ _,
    foldl_keeps State.cue _ (fun _ _ => by simp) _ _,
    foldl_keeps State.prf _ (fun _ _ => by simp) _ _,
    foldl_keeps State.mgr _ (fun _ _ => by simp) _ _,
    foldl_keeps State.races _ (fun _ _ => by simp) _ _,
    foldl_keeps State.pending _ (fun _ _ => by simp) _ _⟩

@[simp] theorem State.readAllLines_keeps (s : State) :
    (s.readAllLines).now = s.now ∧ (s.readAllLines).hold = s.hold
    ∧ (s.readAllLines).plant = s.plant ∧ (s.readAllLines).bowl = s.bowl
    ∧ (s.readAllLines).supervisor = s.supervisor ∧ (s.readAllLines).traffic = s.traffic
    ∧ (s.readAllLines).ptw = s.ptw ∧ (s.readAllLines).fcu = s.fcu ∧ (s.readAllLines).hau = s.hau
    ∧ (s.readAllLines).cue = s.cue ∧ (s.readAllLines).prf = s.prf ∧ (s.readAllLines).mgr = s.mgr
    ∧ (s.readAllLines).races = s.races ∧ (s.readAllLines).pending = s.pending := by
  simp only [State.readAllLines]
  simp

@[simp] theorem State.configureValve_keeps (s : State) (c : Fin 4) (k : ValveConfig) :
    (s.configureValve c k).now = s.now ∧ (s.configureValve c k).hold = s.hold
    ∧ (s.configureValve c k).plant = s.plant ∧ (s.configureValve c k).bowl = s.bowl
    ∧ (s.configureValve c k).supervisor = s.supervisor
    ∧ (s.configureValve c k).traffic = s.traffic ∧ (s.configureValve c k).ptw = s.ptw
    ∧ (s.configureValve c k).fcu = s.fcu ∧ (s.configureValve c k).hau = s.hau
    ∧ (s.configureValve c k).cue = s.cue ∧ (s.configureValve c k).prf = s.prf
    ∧ (s.configureValve c k).mgr = s.mgr ∧ (s.configureValve c k).races = s.races
    ∧ (s.configureValve c k).pending = s.pending := by
  simp only [State.configureValve]
  (repeat' split) <;> simp

@[simp] theorem State.setPlayback_keeps (s : State) (b : PlaybackId) (p : Playback) :
    (s.setPlayback b p).now = s.now ∧ (s.setPlayback b p).hold = s.hold
    ∧ (s.setPlayback b p).plant = s.plant ∧ (s.setPlayback b p).bowl = s.bowl
    ∧ (s.setPlayback b p).supervisor = s.supervisor ∧ (s.setPlayback b p).traffic = s.traffic
    ∧ (s.setPlayback b p).ptw = s.ptw ∧ (s.setPlayback b p).fcu = s.fcu
    ∧ (s.setPlayback b p).hau = s.hau ∧ (s.setPlayback b p).vdu = s.vdu
    ∧ (s.setPlayback b p).prf = s.prf ∧ (s.setPlayback b p).tcu = s.tcu
    ∧ (s.setPlayback b p).ntu = s.ntu ∧ (s.setPlayback b p).mgr = s.mgr
    ∧ (s.setPlayback b p).races = s.races ∧ (s.setPlayback b p).pending = s.pending := by
  simp only [State.setPlayback]
  simp

@[simp] theorem State.startCue_keeps (s : State) (b : PlaybackId) :
    (s.startCue b).now = s.now ∧ (s.startCue b).hold = s.hold ∧ (s.startCue b).plant = s.plant
    ∧ (s.startCue b).bowl = s.bowl ∧ (s.startCue b).supervisor = s.supervisor
    ∧ (s.startCue b).traffic = s.traffic ∧ (s.startCue b).ptw = s.ptw ∧ (s.startCue b).fcu = s.fcu
    ∧ (s.startCue b).hau = s.hau ∧ (s.startCue b).vdu = s.vdu ∧ (s.startCue b).prf = s.prf
    ∧ (s.startCue b).tcu = s.tcu ∧ (s.startCue b).mgr = s.mgr ∧ (s.startCue b).races = s.races
    ∧ (s.startCue b).pending = s.pending := by
  simp only [State.startCue]
  (repeat' split) <;> simp

@[simp] theorem State.completeQuietly_keeps (s : State) (b : PlaybackId) (i : Fin 256) :
    (s.completeQuietly b i).now = s.now ∧ (s.completeQuietly b i).hold = s.hold
    ∧ (s.completeQuietly b i).plant = s.plant ∧ (s.completeQuietly b i).bowl = s.bowl
    ∧ (s.completeQuietly b i).supervisor = s.supervisor
    ∧ (s.completeQuietly b i).traffic = s.traffic ∧ (s.completeQuietly b i).ptw = s.ptw
    ∧ (s.completeQuietly b i).fcu = s.fcu ∧ (s.completeQuietly b i).hau = s.hau
    ∧ (s.completeQuietly b i).vdu = s.vdu ∧ (s.completeQuietly b i).prf = s.prf
    ∧ (s.completeQuietly b i).tcu = s.tcu ∧ (s.completeQuietly b i).ntu = s.ntu
    ∧ (s.completeQuietly b i).mgr = s.mgr ∧ (s.completeQuietly b i).races = s.races
    ∧ (s.completeQuietly b i).pending = s.pending := by
  simp only [State.completeQuietly]
  simp

@[simp] theorem State.completeHeld_keeps (s : State) (b : PlaybackId) (i : Fin 256) :
    (s.completeHeld b i).now = s.now ∧ (s.completeHeld b i).hold = s.hold
    ∧ (s.completeHeld b i).plant = s.plant ∧ (s.completeHeld b i).bowl = s.bowl
    ∧ (s.completeHeld b i).supervisor = s.supervisor ∧ (s.completeHeld b i).traffic = s.traffic
    ∧ (s.completeHeld b i).ptw = s.ptw ∧ (s.completeHeld b i).fcu = s.fcu
    ∧ (s.completeHeld b i).hau = s.hau ∧ (s.completeHeld b i).vdu = s.vdu
    ∧ (s.completeHeld b i).prf = s.prf ∧ (s.completeHeld b i).tcu = s.tcu
    ∧ (s.completeHeld b i).mgr = s.mgr ∧ (s.completeHeld b i).races = s.races
    ∧ (s.completeHeld b i).pending = s.pending := by
  simp only [State.completeHeld]
  (repeat' split) <;> simp

@[simp] theorem State.completeCue_keeps (s : State) (b : PlaybackId) :
    (s.completeCue b).now = s.now ∧ (s.completeCue b).hold = s.hold
    ∧ (s.completeCue b).plant = s.plant ∧ (s.completeCue b).bowl = s.bowl
    ∧ (s.completeCue b).supervisor = s.supervisor ∧ (s.completeCue b).traffic = s.traffic
    ∧ (s.completeCue b).ptw = s.ptw ∧ (s.completeCue b).fcu = s.fcu
    ∧ (s.completeCue b).hau = s.hau ∧ (s.completeCue b).vdu = s.vdu
    ∧ (s.completeCue b).prf = s.prf ∧ (s.completeCue b).tcu = s.tcu
    ∧ (s.completeCue b).mgr = s.mgr ∧ (s.completeCue b).races = s.races
    ∧ (s.completeCue b).pending = s.pending := by
  simp only [State.completeCue]
  (repeat' split) <;> simp

@[simp] theorem State.goPlayback_keeps (s : State) (b : PlaybackId) :
    (s.goPlayback b).now = s.now ∧ (s.goPlayback b).hold = s.hold
    ∧ (s.goPlayback b).plant = s.plant ∧ (s.goPlayback b).bowl = s.bowl
    ∧ (s.goPlayback b).supervisor = s.supervisor ∧ (s.goPlayback b).traffic = s.traffic
    ∧ (s.goPlayback b).ptw = s.ptw ∧ (s.goPlayback b).fcu = s.fcu ∧ (s.goPlayback b).hau = s.hau
    ∧ (s.goPlayback b).vdu = s.vdu ∧ (s.goPlayback b).prf = s.prf ∧ (s.goPlayback b).tcu = s.tcu
    ∧ (s.goPlayback b).mgr = s.mgr ∧ (s.goPlayback b).races = s.races
    ∧ (s.goPlayback b).pending = s.pending := by
  simp only [State.goPlayback]
  (repeat' split) <;> simp

@[simp] theorem State.stopPlayback_keeps (s : State) (b : PlaybackId) :
    (s.stopPlayback b).now = s.now ∧ (s.stopPlayback b).hold = s.hold
    ∧ (s.stopPlayback b).plant = s.plant ∧ (s.stopPlayback b).bowl = s.bowl
    ∧ (s.stopPlayback b).supervisor = s.supervisor ∧ (s.stopPlayback b).traffic = s.traffic
    ∧ (s.stopPlayback b).ptw = s.ptw ∧ (s.stopPlayback b).fcu = s.fcu
    ∧ (s.stopPlayback b).hau = s.hau ∧ (s.stopPlayback b).vdu = s.vdu
    ∧ (s.stopPlayback b).prf = s.prf ∧ (s.stopPlayback b).tcu = s.tcu
    ∧ (s.stopPlayback b).ntu = s.ntu ∧ (s.stopPlayback b).mgr = s.mgr
    ∧ (s.stopPlayback b).races = s.races ∧ (s.stopPlayback b).pending = s.pending := by
  simp only [State.stopPlayback]
  simp

@[simp] theorem State.settleShow_keeps (s : State) :
    (s.settleShow).now = s.now ∧ (s.settleShow).hold = s.hold ∧ (s.settleShow).plant = s.plant
    ∧ (s.settleShow).bowl = s.bowl ∧ (s.settleShow).supervisor = s.supervisor
    ∧ (s.settleShow).traffic = s.traffic ∧ (s.settleShow).ptw = s.ptw ∧ (s.settleShow).fcu = s.fcu
    ∧ (s.settleShow).hau = s.hau ∧ (s.settleShow).vdu = s.vdu ∧ (s.settleShow).prf = s.prf
    ∧ (s.settleShow).tcu = s.tcu ∧ (s.settleShow).mgr = s.mgr ∧ (s.settleShow).races = s.races
    ∧ (s.settleShow).pending = s.pending := by
  simp only [State.settleShow]
  (repeat' split) <;> simp

@[simp] theorem State.pointShow_keeps (s : State) (i : Fin 256) :
    (s.pointShow i).now = s.now ∧ (s.pointShow i).hold = s.hold ∧ (s.pointShow i).plant = s.plant
    ∧ (s.pointShow i).bowl = s.bowl ∧ (s.pointShow i).supervisor = s.supervisor
    ∧ (s.pointShow i).traffic = s.traffic ∧ (s.pointShow i).ptw = s.ptw
    ∧ (s.pointShow i).fcu = s.fcu ∧ (s.pointShow i).hau = s.hau ∧ (s.pointShow i).vdu = s.vdu
    ∧ (s.pointShow i).prf = s.prf ∧ (s.pointShow i).tcu = s.tcu ∧ (s.pointShow i).ntu = s.ntu
    ∧ (s.pointShow i).mgr = s.mgr ∧ (s.pointShow i).races = s.races
    ∧ (s.pointShow i).pending = s.pending := by
  simp only [State.pointShow]
  simp

@[simp] theorem State.holdShow_keeps (s : State) :
    (s.holdShow).now = s.now ∧ (s.holdShow).hold = s.hold ∧ (s.holdShow).plant = s.plant
    ∧ (s.holdShow).bowl = s.bowl ∧ (s.holdShow).supervisor = s.supervisor
    ∧ (s.holdShow).traffic = s.traffic ∧ (s.holdShow).ptw = s.ptw ∧ (s.holdShow).fcu = s.fcu
    ∧ (s.holdShow).hau = s.hau ∧ (s.holdShow).vdu = s.vdu ∧ (s.holdShow).prf = s.prf
    ∧ (s.holdShow).tcu = s.tcu ∧ (s.holdShow).ntu = s.ntu ∧ (s.holdShow).mgr = s.mgr
    ∧ (s.holdShow).races = s.races ∧ (s.holdShow).pending = s.pending := by
  simp only [State.holdShow]
  (repeat' split) <;> simp

@[simp] theorem State.repositionShow_keeps (s : State) (i : Fin 256) (b : Bool) :
    (s.repositionShow i b).now = s.now ∧ (s.repositionShow i b).hold = s.hold
    ∧ (s.repositionShow i b).plant = s.plant ∧ (s.repositionShow i b).bowl = s.bowl
    ∧ (s.repositionShow i b).supervisor = s.supervisor
    ∧ (s.repositionShow i b).traffic = s.traffic ∧ (s.repositionShow i b).ptw = s.ptw
    ∧ (s.repositionShow i b).fcu = s.fcu ∧ (s.repositionShow i b).hau = s.hau
    ∧ (s.repositionShow i b).vdu = s.vdu ∧ (s.repositionShow i b).prf = s.prf
    ∧ (s.repositionShow i b).tcu = s.tcu ∧ (s.repositionShow i b).mgr = s.mgr
    ∧ (s.repositionShow i b).races = s.races ∧ (s.repositionShow i b).pending = s.pending := by
  simp only [State.repositionShow]
  (repeat' split) <;> simp

@[simp] theorem State.framePlayback_keeps (s : State) (b : PlaybackId) :
    (s.framePlayback b).now = s.now ∧ (s.framePlayback b).hold = s.hold
    ∧ (s.framePlayback b).plant = s.plant ∧ (s.framePlayback b).bowl = s.bowl
    ∧ (s.framePlayback b).supervisor = s.supervisor ∧ (s.framePlayback b).traffic = s.traffic
    ∧ (s.framePlayback b).ptw = s.ptw ∧ (s.framePlayback b).fcu = s.fcu
    ∧ (s.framePlayback b).hau = s.hau ∧ (s.framePlayback b).vdu = s.vdu
    ∧ (s.framePlayback b).prf = s.prf ∧ (s.framePlayback b).tcu = s.tcu
    ∧ (s.framePlayback b).mgr = s.mgr ∧ (s.framePlayback b).races = s.races
    ∧ (s.framePlayback b).pending = s.pending := by
  simp only [State.framePlayback]
  (repeat' split) <;> simp

@[simp] theorem State.cueFrame_keeps (s : State) :
    (s.cueFrame).hold = s.hold ∧ (s.cueFrame).plant = s.plant ∧ (s.cueFrame).bowl = s.bowl
    ∧ (s.cueFrame).supervisor = s.supervisor ∧ (s.cueFrame).traffic = s.traffic
    ∧ (s.cueFrame).ptw = s.ptw ∧ (s.cueFrame).fcu = s.fcu ∧ (s.cueFrame).hau = s.hau
    ∧ (s.cueFrame).vdu = s.vdu ∧ (s.cueFrame).prf = s.prf ∧ (s.cueFrame).tcu = s.tcu
    ∧ (s.cueFrame).mgr = s.mgr ∧ (s.cueFrame).races = s.races ∧ (s.cueFrame).pending = s.pending := by
  simp only [State.cueFrame]
  simp

@[simp] theorem State.completeAtReset_keeps (s : State) (b : PlaybackId) :
    (s.completeAtReset b).now = s.now ∧ (s.completeAtReset b).hold = s.hold
    ∧ (s.completeAtReset b).plant = s.plant ∧ (s.completeAtReset b).bowl = s.bowl
    ∧ (s.completeAtReset b).supervisor = s.supervisor ∧ (s.completeAtReset b).traffic = s.traffic
    ∧ (s.completeAtReset b).ptw = s.ptw ∧ (s.completeAtReset b).fcu = s.fcu
    ∧ (s.completeAtReset b).hau = s.hau ∧ (s.completeAtReset b).vdu = s.vdu
    ∧ (s.completeAtReset b).prf = s.prf ∧ (s.completeAtReset b).tcu = s.tcu
    ∧ (s.completeAtReset b).ntu = s.ntu ∧ (s.completeAtReset b).mgr = s.mgr
    ∧ (s.completeAtReset b).races = s.races ∧ (s.completeAtReset b).pending = s.pending := by
  simp only [State.completeAtReset]
  (repeat' split) <;> simp

@[simp] theorem State.resetCue_keeps (s : State) (t : Nat) :
    (s.resetCue t).now = s.now ∧ (s.resetCue t).hold = s.hold ∧ (s.resetCue t).plant = s.plant
    ∧ (s.resetCue t).bowl = s.bowl ∧ (s.resetCue t).supervisor = s.supervisor
    ∧ (s.resetCue t).traffic = s.traffic ∧ (s.resetCue t).ptw = s.ptw ∧ (s.resetCue t).fcu = s.fcu
    ∧ (s.resetCue t).hau = s.hau ∧ (s.resetCue t).vdu = s.vdu ∧ (s.resetCue t).prf = s.prf
    ∧ (s.resetCue t).tcu = s.tcu ∧ (s.resetCue t).ntu = s.ntu ∧ (s.resetCue t).mgr = s.mgr
    ∧ (s.resetCue t).races = s.races ∧ (s.resetCue t).pending = s.pending := by
  simp only [State.resetCue]
  simp

@[simp] theorem State.zoneMoved_keeps (s : State) (z : Fin 4) (a b : ZoneState) :
    (s.zoneMoved z a b).now = s.now ∧ (s.zoneMoved z a b).hold = s.hold
    ∧ (s.zoneMoved z a b).plant = s.plant ∧ (s.zoneMoved z a b).bowl = s.bowl
    ∧ (s.zoneMoved z a b).supervisor = s.supervisor ∧ (s.zoneMoved z a b).traffic = s.traffic
    ∧ (s.zoneMoved z a b).ptw = s.ptw ∧ (s.zoneMoved z a b).fcu = s.fcu
    ∧ (s.zoneMoved z a b).hau = s.hau ∧ (s.zoneMoved z a b).vdu = s.vdu
    ∧ (s.zoneMoved z a b).cue = s.cue ∧ (s.zoneMoved z a b).prf = s.prf
    ∧ (s.zoneMoved z a b).mgr = s.mgr ∧ (s.zoneMoved z a b).races = s.races
    ∧ (s.zoneMoved z a b).pending = s.pending := by
  simp only [State.zoneMoved]
  (repeat' split) <;> simp

@[simp] theorem State.setZone_keeps (s : State) (i : Fin 4) (z : FogZone) :
    (s.setZone i z).now = s.now ∧ (s.setZone i z).hold = s.hold ∧ (s.setZone i z).plant = s.plant
    ∧ (s.setZone i z).bowl = s.bowl ∧ (s.setZone i z).supervisor = s.supervisor
    ∧ (s.setZone i z).traffic = s.traffic ∧ (s.setZone i z).ptw = s.ptw
    ∧ (s.setZone i z).hau = s.hau ∧ (s.setZone i z).vdu = s.vdu ∧ (s.setZone i z).cue = s.cue
    ∧ (s.setZone i z).prf = s.prf ∧ (s.setZone i z).mgr = s.mgr ∧ (s.setZone i z).races = s.races
    ∧ (s.setZone i z).pending = s.pending := by
  simp only [State.setZone]
  simp

@[simp] theorem State.clearZone_keeps (s : State) (z : Fin 4) :
    (s.clearZone z).now = s.now ∧ (s.clearZone z).hold = s.hold ∧ (s.clearZone z).plant = s.plant
    ∧ (s.clearZone z).bowl = s.bowl ∧ (s.clearZone z).supervisor = s.supervisor
    ∧ (s.clearZone z).traffic = s.traffic ∧ (s.clearZone z).ptw = s.ptw
    ∧ (s.clearZone z).hau = s.hau ∧ (s.clearZone z).vdu = s.vdu ∧ (s.clearZone z).cue = s.cue
    ∧ (s.clearZone z).prf = s.prf ∧ (s.clearZone z).mgr = s.mgr ∧ (s.clearZone z).races = s.races
    ∧ (s.clearZone z).pending = s.pending := by
  simp only [State.clearZone]
  simp

@[simp] theorem State.clearZones_keeps (s : State) (l : List (Fin 4)) :
    (l.foldl State.clearZone s).now = s.now ∧ (l.foldl State.clearZone s).hold = s.hold
    ∧ (l.foldl State.clearZone s).plant = s.plant ∧ (l.foldl State.clearZone s).bowl = s.bowl
    ∧ (l.foldl State.clearZone s).supervisor = s.supervisor
    ∧ (l.foldl State.clearZone s).traffic = s.traffic ∧ (l.foldl State.clearZone s).ptw = s.ptw
    ∧ (l.foldl State.clearZone s).hau = s.hau ∧ (l.foldl State.clearZone s).vdu = s.vdu
    ∧ (l.foldl State.clearZone s).cue = s.cue ∧ (l.foldl State.clearZone s).prf = s.prf
    ∧ (l.foldl State.clearZone s).mgr = s.mgr ∧ (l.foldl State.clearZone s).races = s.races
    ∧ (l.foldl State.clearZone s).pending = s.pending := by
  exact ⟨foldl_keeps State.now _ (fun _ _ => by simp) _ _,
    foldl_keeps State.hold _ (fun _ _ => by simp) _ _,
    foldl_keeps State.plant _ (fun _ _ => by simp) _ _,
    foldl_keeps State.bowl _ (fun _ _ => by simp) _ _,
    foldl_keeps State.supervisor _ (fun _ _ => by simp) _ _,
    foldl_keeps State.traffic _ (fun _ _ => by simp) _ _,
    foldl_keeps State.ptw _ (fun _ _ => by simp) _ _,
    foldl_keeps State.hau _ (fun _ _ => by simp) _ _,
    foldl_keeps State.vdu _ (fun _ _ => by simp) _ _,
    foldl_keeps State.cue _ (fun _ _ => by simp) _ _,
    foldl_keeps State.prf _ (fun _ _ => by simp) _ _,
    foldl_keeps State.mgr _ (fun _ _ => by simp) _ _,
    foldl_keeps State.races _ (fun _ _ => by simp) _ _,
    foldl_keeps State.pending _ (fun _ _ => by simp) _ _⟩

@[simp] theorem State.writeKnot_keeps (s : State) (i : Fin 41) (p : Nat) :
    (s.writeKnot i p).now = s.now ∧ (s.writeKnot i p).hold = s.hold
    ∧ (s.writeKnot i p).plant = s.plant ∧ (s.writeKnot i p).bowl = s.bowl
    ∧ (s.writeKnot i p).supervisor = s.supervisor ∧ (s.writeKnot i p).traffic = s.traffic
    ∧ (s.writeKnot i p).ptw = s.ptw ∧ (s.writeKnot i p).hau = s.hau
    ∧ (s.writeKnot i p).vdu = s.vdu ∧ (s.writeKnot i p).cue = s.cue
    ∧ (s.writeKnot i p).prf = s.prf ∧ (s.writeKnot i p).mgr = s.mgr
    ∧ (s.writeKnot i p).races = s.races ∧ (s.writeKnot i p).pending = s.pending := by
  simp only [State.writeKnot]
  (repeat' split) <;> simp

@[simp] theorem State.evalZone_keeps (s : State) (z : Fin 4) :
    (s.evalZone z).now = s.now ∧ (s.evalZone z).hold = s.hold ∧ (s.evalZone z).plant = s.plant
    ∧ (s.evalZone z).bowl = s.bowl ∧ (s.evalZone z).supervisor = s.supervisor
    ∧ (s.evalZone z).traffic = s.traffic ∧ (s.evalZone z).ptw = s.ptw ∧ (s.evalZone z).hau = s.hau
    ∧ (s.evalZone z).vdu = s.vdu ∧ (s.evalZone z).cue = s.cue ∧ (s.evalZone z).prf = s.prf
    ∧ (s.evalZone z).mgr = s.mgr ∧ (s.evalZone z).races = s.races
    ∧ (s.evalZone z).pending = s.pending := by
  simp only [State.evalZone]
  (repeat' split) <;> simp

@[simp] theorem State.evalZones_keeps (s : State) (l : List (Fin 4)) :
    (l.foldl State.evalZone s).now = s.now ∧ (l.foldl State.evalZone s).hold = s.hold
    ∧ (l.foldl State.evalZone s).plant = s.plant ∧ (l.foldl State.evalZone s).bowl = s.bowl
    ∧ (l.foldl State.evalZone s).supervisor = s.supervisor
    ∧ (l.foldl State.evalZone s).traffic = s.traffic ∧ (l.foldl State.evalZone s).ptw = s.ptw
    ∧ (l.foldl State.evalZone s).hau = s.hau ∧ (l.foldl State.evalZone s).vdu = s.vdu
    ∧ (l.foldl State.evalZone s).cue = s.cue ∧ (l.foldl State.evalZone s).prf = s.prf
    ∧ (l.foldl State.evalZone s).mgr = s.mgr ∧ (l.foldl State.evalZone s).races = s.races
    ∧ (l.foldl State.evalZone s).pending = s.pending := by
  exact ⟨foldl_keeps State.now _ (fun _ _ => by simp) _ _,
    foldl_keeps State.hold _ (fun _ _ => by simp) _ _,
    foldl_keeps State.plant _ (fun _ _ => by simp) _ _,
    foldl_keeps State.bowl _ (fun _ _ => by simp) _ _,
    foldl_keeps State.supervisor _ (fun _ _ => by simp) _ _,
    foldl_keeps State.traffic _ (fun _ _ => by simp) _ _,
    foldl_keeps State.ptw _ (fun _ _ => by simp) _ _,
    foldl_keeps State.hau _ (fun _ _ => by simp) _ _,
    foldl_keeps State.vdu _ (fun _ _ => by simp) _ _,
    foldl_keeps State.cue _ (fun _ _ => by simp) _ _,
    foldl_keeps State.prf _ (fun _ _ => by simp) _ _,
    foldl_keeps State.mgr _ (fun _ _ => by simp) _ _,
    foldl_keeps State.races _ (fun _ _ => by simp) _ _,
    foldl_keeps State.pending _ (fun _ _ => by simp) _ _⟩

@[simp] theorem State.recomputeStage_keeps (s : State) :
    (s.recomputeStage).now = s.now ∧ (s.recomputeStage).hold = s.hold
    ∧ (s.recomputeStage).plant = s.plant ∧ (s.recomputeStage).bowl = s.bowl
    ∧ (s.recomputeStage).supervisor = s.supervisor ∧ (s.recomputeStage).traffic = s.traffic
    ∧ (s.recomputeStage).hau = s.hau ∧ (s.recomputeStage).vdu = s.vdu
    ∧ (s.recomputeStage).cue = s.cue ∧ (s.recomputeStage).prf = s.prf
    ∧ (s.recomputeStage).tcu = s.tcu ∧ (s.recomputeStage).mgr = s.mgr
    ∧ (s.recomputeStage).races = s.races ∧ (s.recomputeStage).pending = s.pending := by
  simp only [State.recomputeStage]
  (repeat' split) <;> simp

@[simp] theorem State.writeFan_keeps (s : State) :
    (s.writeFan).now = s.now ∧ (s.writeFan).hold = s.hold ∧ (s.writeFan).plant = s.plant
    ∧ (s.writeFan).bowl = s.bowl ∧ (s.writeFan).supervisor = s.supervisor
    ∧ (s.writeFan).traffic = s.traffic ∧ (s.writeFan).hau = s.hau ∧ (s.writeFan).vdu = s.vdu
    ∧ (s.writeFan).cue = s.cue ∧ (s.writeFan).prf = s.prf ∧ (s.writeFan).tcu = s.tcu
    ∧ (s.writeFan).ntu = s.ntu ∧ (s.writeFan).mgr = s.mgr ∧ (s.writeFan).races = s.races
    ∧ (s.writeFan).pending = s.pending := by
  simp only [State.writeFan]
  simp

@[simp] theorem State.sampleZone_keeps (s : State) (z : Fin 4) :
    (s.sampleZone z).now = s.now ∧ (s.sampleZone z).hold = s.hold
    ∧ (s.sampleZone z).plant = s.plant ∧ (s.sampleZone z).bowl = s.bowl
    ∧ (s.sampleZone z).supervisor = s.supervisor ∧ (s.sampleZone z).traffic = s.traffic
    ∧ (s.sampleZone z).ptw = s.ptw ∧ (s.sampleZone z).fcu = s.fcu ∧ (s.sampleZone z).hau = s.hau
    ∧ (s.sampleZone z).vdu = s.vdu ∧ (s.sampleZone z).cue = s.cue ∧ (s.sampleZone z).prf = s.prf
    ∧ (s.sampleZone z).mgr = s.mgr ∧ (s.sampleZone z).races = s.races
    ∧ (s.sampleZone z).pending = s.pending := by
  simp only [State.sampleZone]
  simp

@[simp] theorem State.sampleZones_keeps (s : State) (l : List (Fin 4)) :
    (l.foldl State.sampleZone s).now = s.now ∧ (l.foldl State.sampleZone s).hold = s.hold
    ∧ (l.foldl State.sampleZone s).plant = s.plant ∧ (l.foldl State.sampleZone s).bowl = s.bowl
    ∧ (l.foldl State.sampleZone s).supervisor = s.supervisor
    ∧ (l.foldl State.sampleZone s).traffic = s.traffic ∧ (l.foldl State.sampleZone s).ptw = s.ptw
    ∧ (l.foldl State.sampleZone s).fcu = s.fcu ∧ (l.foldl State.sampleZone s).hau = s.hau
    ∧ (l.foldl State.sampleZone s).vdu = s.vdu ∧ (l.foldl State.sampleZone s).cue = s.cue
    ∧ (l.foldl State.sampleZone s).prf = s.prf ∧ (l.foldl State.sampleZone s).mgr = s.mgr
    ∧ (l.foldl State.sampleZone s).races = s.races
    ∧ (l.foldl State.sampleZone s).pending = s.pending := by
  exact ⟨foldl_keeps State.now _ (fun _ _ => by simp) _ _,
    foldl_keeps State.hold _ (fun _ _ => by simp) _ _,
    foldl_keeps State.plant _ (fun _ _ => by simp) _ _,
    foldl_keeps State.bowl _ (fun _ _ => by simp) _ _,
    foldl_keeps State.supervisor _ (fun _ _ => by simp) _ _,
    foldl_keeps State.traffic _ (fun _ _ => by simp) _ _,
    foldl_keeps State.ptw _ (fun _ _ => by simp) _ _,
    foldl_keeps State.fcu _ (fun _ _ => by simp) _ _,
    foldl_keeps State.hau _ (fun _ _ => by simp) _ _,
    foldl_keeps State.vdu _ (fun _ _ => by simp) _ _,
    foldl_keeps State.cue _ (fun _ _ => by simp) _ _,
    foldl_keeps State.prf _ (fun _ _ => by simp) _ _,
    foldl_keeps State.mgr _ (fun _ _ => by simp) _ _,
    foldl_keeps State.races _ (fun _ _ => by simp) _ _,
    foldl_keeps State.pending _ (fun _ _ => by simp) _ _⟩

@[simp] theorem State.fogStages_keeps (s : State) :
    (s.fogStages).now = s.now ∧ (s.fogStages).hold = s.hold ∧ (s.fogStages).plant = s.plant
    ∧ (s.fogStages).bowl = s.bowl ∧ (s.fogStages).supervisor = s.supervisor
    ∧ (s.fogStages).traffic = s.traffic ∧ (s.fogStages).ptw = s.ptw ∧ (s.fogStages).hau = s.hau
    ∧ (s.fogStages).vdu = s.vdu ∧ (s.fogStages).cue = s.cue ∧ (s.fogStages).prf = s.prf
    ∧ (s.fogStages).mgr = s.mgr ∧ (s.fogStages).races = s.races
    ∧ (s.fogStages).pending = s.pending := by
  simp only [State.fogStages]
  simp

@[simp] theorem State.fogEvaluation_keeps (s : State) :
    (s.fogEvaluation).hold = s.hold ∧ (s.fogEvaluation).plant = s.plant
    ∧ (s.fogEvaluation).bowl = s.bowl ∧ (s.fogEvaluation).supervisor = s.supervisor
    ∧ (s.fogEvaluation).traffic = s.traffic ∧ (s.fogEvaluation).hau = s.hau
    ∧ (s.fogEvaluation).vdu = s.vdu ∧ (s.fogEvaluation).cue = s.cue
    ∧ (s.fogEvaluation).prf = s.prf ∧ (s.fogEvaluation).mgr = s.mgr
    ∧ (s.fogEvaluation).races = s.races ∧ (s.fogEvaluation).pending = s.pending := by
  simp only [State.fogEvaluation]
  (repeat' split) <;> simp

@[simp] theorem State.publish_keeps (s : State) (r : AllocationResult) :
    (s.publish r).now = s.now ∧ (s.publish r).hold = s.hold ∧ (s.publish r).plant = s.plant
    ∧ (s.publish r).bowl = s.bowl ∧ (s.publish r).supervisor = s.supervisor
    ∧ (s.publish r).traffic = s.traffic ∧ (s.publish r).vdu = s.vdu ∧ (s.publish r).cue = s.cue
    ∧ (s.publish r).prf = s.prf ∧ (s.publish r).tcu = s.tcu ∧ (s.publish r).mgr = s.mgr
    ∧ (s.publish r).races = s.races ∧ (s.publish r).pending = s.pending := by
  simp only [State.publish]
  simp

@[simp] theorem State.writeBoiler_keeps (s : State) :
    (s.writeBoiler).now = s.now ∧ (s.writeBoiler).hold = s.hold ∧ (s.writeBoiler).plant = s.plant
    ∧ (s.writeBoiler).bowl = s.bowl ∧ (s.writeBoiler).supervisor = s.supervisor
    ∧ (s.writeBoiler).traffic = s.traffic ∧ (s.writeBoiler).fcu = s.fcu
    ∧ (s.writeBoiler).vdu = s.vdu ∧ (s.writeBoiler).cue = s.cue ∧ (s.writeBoiler).prf = s.prf
    ∧ (s.writeBoiler).tcu = s.tcu ∧ (s.writeBoiler).mgr = s.mgr ∧ (s.writeBoiler).races = s.races
    ∧ (s.writeBoiler).pending = s.pending := by
  simp only [State.writeBoiler]
  (repeat' split) <;> simp

@[simp] theorem State.raiseShort_keeps (s : State) (b : Bool) :
    (s.raiseShort b).now = s.now ∧ (s.raiseShort b).hold = s.hold
    ∧ (s.raiseShort b).plant = s.plant ∧ (s.raiseShort b).bowl = s.bowl
    ∧ (s.raiseShort b).supervisor = s.supervisor ∧ (s.raiseShort b).traffic = s.traffic
    ∧ (s.raiseShort b).ptw = s.ptw ∧ (s.raiseShort b).fcu = s.fcu ∧ (s.raiseShort b).hau = s.hau
    ∧ (s.raiseShort b).vdu = s.vdu ∧ (s.raiseShort b).cue = s.cue ∧ (s.raiseShort b).prf = s.prf
    ∧ (s.raiseShort b).tcu = s.tcu ∧ (s.raiseShort b).mgr = s.mgr
    ∧ (s.raiseShort b).races = s.races ∧ (s.raiseShort b).pending = s.pending := by
  simp only [State.raiseShort]
  (repeat' split) <;> simp

@[simp] theorem State.handTargets_keeps (s : State) :
    (s.handTargets).now = s.now ∧ (s.handTargets).hold = s.hold ∧ (s.handTargets).plant = s.plant
    ∧ (s.handTargets).bowl = s.bowl ∧ (s.handTargets).supervisor = s.supervisor
    ∧ (s.handTargets).traffic = s.traffic ∧ (s.handTargets).ptw = s.ptw
    ∧ (s.handTargets).fcu = s.fcu ∧ (s.handTargets).hau = s.hau ∧ (s.handTargets).cue = s.cue
    ∧ (s.handTargets).prf = s.prf ∧ (s.handTargets).tcu = s.tcu ∧ (s.handTargets).ntu = s.ntu
    ∧ (s.handTargets).mgr = s.mgr ∧ (s.handTargets).races = s.races
    ∧ (s.handTargets).pending = s.pending := by
  exact ⟨foldl_keeps State.now _ (fun _ _ => by simp) _ _,
    foldl_keeps State.hold _ (fun _ _ => by simp) _ _,
    foldl_keeps State.plant _ (fun _ _ => by simp) _ _,
    foldl_keeps State.bowl _ (fun _ _ => by simp) _ _,
    foldl_keeps State.supervisor _ (fun _ _ => by simp) _ _,
    foldl_keeps State.traffic _ (fun _ _ => by simp) _ _,
    foldl_keeps State.ptw _ (fun _ _ => by simp) _ _,
    foldl_keeps State.fcu _ (fun _ _ => by simp) _ _,
    foldl_keeps State.hau _ (fun _ _ => by simp) _ _,
    foldl_keeps State.cue _ (fun _ _ => by simp) _ _,
    foldl_keeps State.prf _ (fun _ _ => by simp) _ _,
    foldl_keeps State.tcu _ (fun _ _ => by simp) _ _,
    foldl_keeps State.ntu _ (fun _ _ => by simp) _ _,
    foldl_keeps State.mgr _ (fun _ _ => by simp) _ _,
    foldl_keeps State.races _ (fun _ _ => by simp) _ _,
    foldl_keeps State.pending _ (fun _ _ => by simp) _ _⟩

@[simp] theorem State.writeZoneValves_keeps (s : State) :
    (s.writeZoneValves).now = s.now ∧ (s.writeZoneValves).hold = s.hold
    ∧ (s.writeZoneValves).plant = s.plant ∧ (s.writeZoneValves).bowl = s.bowl
    ∧ (s.writeZoneValves).supervisor = s.supervisor ∧ (s.writeZoneValves).traffic = s.traffic
    ∧ (s.writeZoneValves).fcu = s.fcu ∧ (s.writeZoneValves).hau = s.hau
    ∧ (s.writeZoneValves).vdu = s.vdu ∧ (s.writeZoneValves).cue = s.cue
    ∧ (s.writeZoneValves).prf = s.prf ∧ (s.writeZoneValves).tcu = s.tcu
    ∧ (s.writeZoneValves).ntu = s.ntu ∧ (s.writeZoneValves).mgr = s.mgr
    ∧ (s.writeZoneValves).races = s.races ∧ (s.writeZoneValves).pending = s.pending := by
  exact ⟨foldl_keeps State.now _ (fun _ _ => by simp) _ _,
    foldl_keeps State.hold _ (fun _ _ => by simp) _ _,
    foldl_keeps State.plant _ (fun _ _ => by simp) _ _,
    foldl_keeps State.bowl _ (fun _ _ => by simp) _ _,
    foldl_keeps State.supervisor _ (fun _ _ => by simp) _ _,
    foldl_keeps State.traffic _ (fun _ _ => by simp) _ _,
    foldl_keeps State.fcu _ (fun _ _ => by simp) _ _,
    foldl_keeps State.hau _ (fun _ _ => by simp) _ _,
    foldl_keeps State.vdu _ (fun _ _ => by simp) _ _,
    foldl_keeps State.cue _ (fun _ _ => by simp) _ _,
    foldl_keeps State.prf _ (fun _ _ => by simp) _ _,
    foldl_keeps State.tcu _ (fun _ _ => by simp) _ _,
    foldl_keeps State.ntu _ (fun _ _ => by simp) _ _,
    foldl_keeps State.mgr _ (fun _ _ => by simp) _ _,
    foldl_keeps State.races _ (fun _ _ => by simp) _ _,
    foldl_keeps State.pending _ (fun _ _ => by simp) _ _⟩

@[simp] theorem State.sampleResult_keeps (s : State) :
    (s.sampleResult).now = s.now ∧ (s.sampleResult).hold = s.hold
    ∧ (s.sampleResult).plant = s.plant ∧ (s.sampleResult).bowl = s.bowl
    ∧ (s.sampleResult).supervisor = s.supervisor ∧ (s.sampleResult).traffic = s.traffic
    ∧ (s.sampleResult).ptw = s.ptw ∧ (s.sampleResult).fcu = s.fcu ∧ (s.sampleResult).hau = s.hau
    ∧ (s.sampleResult).vdu = s.vdu ∧ (s.sampleResult).cue = s.cue ∧ (s.sampleResult).prf = s.prf
    ∧ (s.sampleResult).mgr = s.mgr ∧ (s.sampleResult).races = s.races
    ∧ (s.sampleResult).pending = s.pending := by
  simp only [State.sampleResult]
  simp

@[simp] theorem State.followResult_keeps (s : State) (b : Bool) :
    (s.followResult b).now = s.now ∧ (s.followResult b).hold = s.hold
    ∧ (s.followResult b).plant = s.plant ∧ (s.followResult b).bowl = s.bowl
    ∧ (s.followResult b).supervisor = s.supervisor ∧ (s.followResult b).traffic = s.traffic
    ∧ (s.followResult b).fcu = s.fcu ∧ (s.followResult b).cue = s.cue
    ∧ (s.followResult b).prf = s.prf ∧ (s.followResult b).mgr = s.mgr
    ∧ (s.followResult b).races = s.races ∧ (s.followResult b).pending = s.pending := by
  simp only [State.followResult]
  simp

@[simp] theorem State.heatEvaluation_keeps (s : State) :
    (s.heatEvaluation).hold = s.hold ∧ (s.heatEvaluation).plant = s.plant
    ∧ (s.heatEvaluation).bowl = s.bowl ∧ (s.heatEvaluation).supervisor = s.supervisor
    ∧ (s.heatEvaluation).traffic = s.traffic ∧ (s.heatEvaluation).cue = s.cue
    ∧ (s.heatEvaluation).prf = s.prf ∧ (s.heatEvaluation).mgr = s.mgr
    ∧ (s.heatEvaluation).races = s.races ∧ (s.heatEvaluation).pending = s.pending := by
  simp only [State.heatEvaluation]
  simp

@[simp] theorem State.storeProfile_keeps (s : State) (i : Fin 8) (p : Profile) :
    (s.storeProfile i p).now = s.now ∧ (s.storeProfile i p).hold = s.hold
    ∧ (s.storeProfile i p).plant = s.plant ∧ (s.storeProfile i p).bowl = s.bowl
    ∧ (s.storeProfile i p).supervisor = s.supervisor ∧ (s.storeProfile i p).traffic = s.traffic
    ∧ (s.storeProfile i p).ptw = s.ptw ∧ (s.storeProfile i p).fcu = s.fcu
    ∧ (s.storeProfile i p).hau = s.hau ∧ (s.storeProfile i p).vdu = s.vdu
    ∧ (s.storeProfile i p).cue = s.cue ∧ (s.storeProfile i p).tcu = s.tcu
    ∧ (s.storeProfile i p).mgr = s.mgr ∧ (s.storeProfile i p).races = s.races
    ∧ (s.storeProfile i p).pending = s.pending := by
  simp only [State.storeProfile]
  (repeat' split) <;> simp

@[simp] theorem State.takeSelection_keeps (s : State) (k : Fin 8) (c : Nat) :
    (s.takeSelection k c).now = s.now ∧ (s.takeSelection k c).hold = s.hold
    ∧ (s.takeSelection k c).plant = s.plant ∧ (s.takeSelection k c).bowl = s.bowl
    ∧ (s.takeSelection k c).supervisor = s.supervisor ∧ (s.takeSelection k c).traffic = s.traffic
    ∧ (s.takeSelection k c).ptw = s.ptw ∧ (s.takeSelection k c).fcu = s.fcu
    ∧ (s.takeSelection k c).hau = s.hau ∧ (s.takeSelection k c).vdu = s.vdu
    ∧ (s.takeSelection k c).tcu = s.tcu ∧ (s.takeSelection k c).mgr = s.mgr
    ∧ (s.takeSelection k c).races = s.races ∧ (s.takeSelection k c).pending = s.pending := by
  simp only [State.takeSelection]
  simp

@[simp] theorem State.selectByPoint_keeps (s : State) (p : Fin 256) (v : Int) :
    (s.selectByPoint p v).now = s.now ∧ (s.selectByPoint p v).hold = s.hold
    ∧ (s.selectByPoint p v).plant = s.plant ∧ (s.selectByPoint p v).bowl = s.bowl
    ∧ (s.selectByPoint p v).supervisor = s.supervisor ∧ (s.selectByPoint p v).traffic = s.traffic
    ∧ (s.selectByPoint p v).ptw = s.ptw ∧ (s.selectByPoint p v).fcu = s.fcu
    ∧ (s.selectByPoint p v).hau = s.hau ∧ (s.selectByPoint p v).vdu = s.vdu
    ∧ (s.selectByPoint p v).tcu = s.tcu ∧ (s.selectByPoint p v).mgr = s.mgr
    ∧ (s.selectByPoint p v).races = s.races ∧ (s.selectByPoint p v).pending = s.pending := by
  simp only [State.selectByPoint]
  (repeat' split) <;> simp

@[simp] theorem State.arrivalEvent_keeps (s : State) (i : Fin 256) (b : Option Int) (v : Int) :
    (s.arrivalEvent i b v).now = s.now ∧ (s.arrivalEvent i b v).hold = s.hold
    ∧ (s.arrivalEvent i b v).plant = s.plant ∧ (s.arrivalEvent i b v).bowl = s.bowl
    ∧ (s.arrivalEvent i b v).supervisor = s.supervisor
    ∧ (s.arrivalEvent i b v).traffic = s.traffic ∧ (s.arrivalEvent i b v).ptw = s.ptw
    ∧ (s.arrivalEvent i b v).fcu = s.fcu ∧ (s.arrivalEvent i b v).hau = s.hau
    ∧ (s.arrivalEvent i b v).vdu = s.vdu ∧ (s.arrivalEvent i b v).tcu = s.tcu
    ∧ (s.arrivalEvent i b v).mgr = s.mgr ∧ (s.arrivalEvent i b v).races = s.races
    ∧ (s.arrivalEvent i b v).pending = s.pending := by
  simp only [State.arrivalEvent]
  (repeat' split) <;> simp

@[simp] theorem State.readingEntry_keeps (s : State) (a b : Nat) (v : Int) (q : Byte) :
    ((s.readingEntry a b v q).2.2).now = s.now ∧ ((s.readingEntry a b v q).2.2).hold = s.hold
    ∧ ((s.readingEntry a b v q).2.2).plant = s.plant
    ∧ ((s.readingEntry a b v q).2.2).bowl = s.bowl
    ∧ ((s.readingEntry a b v q).2.2).supervisor = s.supervisor
    ∧ ((s.readingEntry a b v q).2.2).traffic = s.traffic
    ∧ ((s.readingEntry a b v q).2.2).fcu = s.fcu ∧ ((s.readingEntry a b v q).2.2).hau = s.hau
    ∧ ((s.readingEntry a b v q).2.2).vdu = s.vdu ∧ ((s.readingEntry a b v q).2.2).mgr = s.mgr
    ∧ ((s.readingEntry a b v q).2.2).races = s.races
    ∧ ((s.readingEntry a b v q).2.2).pending = s.pending := by
  simp only [State.readingEntry]
  (repeat' split) <;> simp

end Sys2Proof.Machine
end

