-- ==== Sys2Proof/Laws/KeepsTraffic.lean ====
section
/-! SUPPORT. What the operations of the ports, of the traffic, of the requests and of the commands leave alone:
for each operation, one lemma whose parts are rewriting rules. -/

namespace Sys2Proof.Machine

/-- What every step of a fold that also gathers an answer leaves alone, the fold leaves alone. -/
theorem foldl_pair_keeps {α β γ : Type} (g : State → β) (f : γ × State → α → γ × State)
    (h : ∀ x a, g (f x a).2 = g x.2) (l : List α) (x : γ × State) :
    g (l.foldl f x).2 = g x.2 := by
  induction l generalizing x with
  | nil => rfl
  | cons a l ih => rw [List.foldl_cons, ih, h]

/-- The same of a fold that gathers two answers. -/
theorem foldl_triple_keeps {α β γ δ : Type} (g : State → β) (f : γ × δ × State → α → γ × δ × State)
    (h : ∀ x a, g (f x a).2.2 = g x.2.2) (l : List α) (x : γ × δ × State) :
    g (l.foldl f x).2.2 = g x.2.2 := by
  induction l generalizing x with
  | nil => rfl
  | cons a l ih => rw [List.foldl_cons, ih, h]

@[simp] theorem State.setReceiver_keeps (s : State) (p : Port) (r : Receiver) :
    (s.setReceiver p r).now = s.now ∧ (s.setReceiver p r).hold = s.hold
    ∧ (s.setReceiver p r).traffic = s.traffic ∧ (s.setReceiver p r).ptw = s.ptw
    ∧ (s.setReceiver p r).fcu = s.fcu ∧ (s.setReceiver p r).hau = s.hau
    ∧ (s.setReceiver p r).vdu = s.vdu ∧ (s.setReceiver p r).cue = s.cue
    ∧ (s.setReceiver p r).prf = s.prf ∧ (s.setReceiver p r).tcu = s.tcu
    ∧ (s.setReceiver p r).ntu = s.ntu ∧ (s.setReceiver p r).mgr = s.mgr
    ∧ (s.setReceiver p r).races = s.races ∧ (s.setReceiver p r).pending = s.pending := by
  simp only [State.setReceiver]
  simp

@[simp] theorem State.portEvent_keeps (s : State) (p : Port) (e : PortEvent) :
    (s.portEvent p e).now = s.now ∧ (s.portEvent p e).hold = s.hold
    ∧ (s.portEvent p e).traffic = s.traffic ∧ (s.portEvent p e).ptw = s.ptw
    ∧ (s.portEvent p e).fcu = s.fcu ∧ (s.portEvent p e).hau = s.hau
    ∧ (s.portEvent p e).vdu = s.vdu ∧ (s.portEvent p e).cue = s.cue
    ∧ (s.portEvent p e).prf = s.prf ∧ (s.portEvent p e).tcu = s.tcu
    ∧ (s.portEvent p e).mgr = s.mgr ∧ (s.portEvent p e).races = s.races
    ∧ (s.portEvent p e).pending = s.pending := by
  simp only [State.portEvent]
  simp

@[simp] theorem State.countRelayDrop_keeps (s : State) (p : Port) :
    (s.countRelayDrop p).now = s.now ∧ (s.countRelayDrop p).hold = s.hold
    ∧ (s.countRelayDrop p).traffic = s.traffic ∧ (s.countRelayDrop p).ptw = s.ptw
    ∧ (s.countRelayDrop p).fcu = s.fcu ∧ (s.countRelayDrop p).hau = s.hau
    ∧ (s.countRelayDrop p).vdu = s.vdu ∧ (s.countRelayDrop p).cue = s.cue
    ∧ (s.countRelayDrop p).prf = s.prf ∧ (s.countRelayDrop p).tcu = s.tcu
    ∧ (s.countRelayDrop p).ntu = s.ntu ∧ (s.countRelayDrop p).mgr = s.mgr
    ∧ (s.countRelayDrop p).races = s.races ∧ (s.countRelayDrop p).pending = s.pending := by
  simp only [State.countRelayDrop]
  simp

@[simp] theorem State.countUnroutable_keeps (s : State) :
    (s.countUnroutable).now = s.now ∧ (s.countUnroutable).hold = s.hold
    ∧ (s.countUnroutable).plant = s.plant ∧ (s.countUnroutable).bowl = s.bowl
    ∧ (s.countUnroutable).traffic = s.traffic ∧ (s.countUnroutable).ptw = s.ptw
    ∧ (s.countUnroutable).fcu = s.fcu ∧ (s.countUnroutable).hau = s.hau
    ∧ (s.countUnroutable).vdu = s.vdu ∧ (s.countUnroutable).cue = s.cue
    ∧ (s.countUnroutable).prf = s.prf ∧ (s.countUnroutable).tcu = s.tcu
    ∧ (s.countUnroutable).ntu = s.ntu ∧ (s.countUnroutable).mgr = s.mgr
    ∧ (s.countUnroutable).races = s.races ∧ (s.countUnroutable).pending = s.pending := by
  simp only [State.countUnroutable]
  simp

@[simp] theorem State.sendField_keeps (s : State) (g : Segment) (t : Telegram) (k : SendKind) :
    (s.sendField g t k).now = s.now ∧ (s.sendField g t k).hold = s.hold
    ∧ (s.sendField g t k).supervisor = s.supervisor ∧ (s.sendField g t k).traffic = s.traffic
    ∧ (s.sendField g t k).ptw = s.ptw ∧ (s.sendField g t k).fcu = s.fcu
    ∧ (s.sendField g t k).hau = s.hau ∧ (s.sendField g t k).vdu = s.vdu
    ∧ (s.sendField g t k).cue = s.cue ∧ (s.sendField g t k).prf = s.prf
    ∧ (s.sendField g t k).tcu = s.tcu ∧ (s.sendField g t k).ntu = s.ntu
    ∧ (s.sendField g t k).mgr = s.mgr ∧ (s.sendField g t k).races = s.races
    ∧ (s.sendField g t k).pending = s.pending := by
  simp only [State.sendField]
  simp

@[simp] theorem State.sendUp_keeps (s : State) (t : Telegram) (k : SendKind) :
    (s.sendUp t k).now = s.now ∧ (s.sendUp t k).hold = s.hold ∧ (s.sendUp t k).plant = s.plant
    ∧ (s.sendUp t k).bowl = s.bowl ∧ (s.sendUp t k).traffic = s.traffic
    ∧ (s.sendUp t k).ptw = s.ptw ∧ (s.sendUp t k).fcu = s.fcu ∧ (s.sendUp t k).hau = s.hau
    ∧ (s.sendUp t k).vdu = s.vdu ∧ (s.sendUp t k).cue = s.cue ∧ (s.sendUp t k).prf = s.prf
    ∧ (s.sendUp t k).tcu = s.tcu ∧ (s.sendUp t k).ntu = s.ntu ∧ (s.sendUp t k).mgr = s.mgr
    ∧ (s.sendUp t k).races = s.races ∧ (s.sendUp t k).pending = s.pending := by
  simp only [State.sendUp]
  simp

@[simp] theorem State.pollMiss_keeps (s : State) (g : Segment) (n : Nat) :
    (s.pollMiss g n).now = s.now ∧ (s.pollMiss g n).hold = s.hold
    ∧ (s.pollMiss g n).supervisor = s.supervisor ∧ (s.pollMiss g n).traffic = s.traffic
    ∧ (s.pollMiss g n).ptw = s.ptw ∧ (s.pollMiss g n).fcu = s.fcu ∧ (s.pollMiss g n).hau = s.hau
    ∧ (s.pollMiss g n).vdu = s.vdu ∧ (s.pollMiss g n).cue = s.cue ∧ (s.pollMiss g n).prf = s.prf
    ∧ (s.pollMiss g n).tcu = s.tcu ∧ (s.pollMiss g n).mgr = s.mgr
    ∧ (s.pollMiss g n).races = s.races ∧ (s.pollMiss g n).pending = s.pending := by
  simp only [State.pollMiss]
  (repeat' split) <;> simp

@[simp] theorem State.windowExpiry_keeps (s : State) (g : Segment) :
    (s.windowExpiry g).hold = s.hold ∧ (s.windowExpiry g).supervisor = s.supervisor
    ∧ (s.windowExpiry g).traffic = s.traffic ∧ (s.windowExpiry g).ptw = s.ptw
    ∧ (s.windowExpiry g).fcu = s.fcu ∧ (s.windowExpiry g).hau = s.hau
    ∧ (s.windowExpiry g).vdu = s.vdu ∧ (s.windowExpiry g).cue = s.cue
    ∧ (s.windowExpiry g).prf = s.prf ∧ (s.windowExpiry g).tcu = s.tcu
    ∧ (s.windowExpiry g).mgr = s.mgr ∧ (s.windowExpiry g).races = s.races
    ∧ (s.windowExpiry g).pending = s.pending := by
  simp only [State.windowExpiry]
  (repeat' split) <;> simp

@[simp] theorem State.enqueueInbound_keeps (s : State) (x : Inbound) :
    (s.enqueueInbound x).now = s.now ∧ (s.enqueueInbound x).hold = s.hold
    ∧ (s.enqueueInbound x).ptw = s.ptw ∧ (s.enqueueInbound x).fcu = s.fcu
    ∧ (s.enqueueInbound x).hau = s.hau ∧ (s.enqueueInbound x).vdu = s.vdu
    ∧ (s.enqueueInbound x).cue = s.cue ∧ (s.enqueueInbound x).prf = s.prf
    ∧ (s.enqueueInbound x).tcu = s.tcu ∧ (s.enqueueInbound x).mgr = s.mgr
    ∧ (s.enqueueInbound x).races = s.races ∧ (s.enqueueInbound x).pending = s.pending := by
  simp only [State.enqueueInbound]
  (repeat' split) <;> simp

@[simp] theorem State.relayUp_keeps (s : State) (t : Telegram) (p : Port) :
    (s.relayUp t p).now = s.now ∧ (s.relayUp t p).hold = s.hold ∧ (s.relayUp t p).ptw = s.ptw
    ∧ (s.relayUp t p).fcu = s.fcu ∧ (s.relayUp t p).hau = s.hau ∧ (s.relayUp t p).vdu = s.vdu
    ∧ (s.relayUp t p).cue = s.cue ∧ (s.relayUp t p).prf = s.prf ∧ (s.relayUp t p).tcu = s.tcu
    ∧ (s.relayUp t p).ntu = s.ntu ∧ (s.relayUp t p).mgr = s.mgr ∧ (s.relayUp t p).races = s.races
    ∧ (s.relayUp t p).pending = s.pending := by
  simp only [State.relayUp]
  (repeat' split) <;> simp

@[simp] theorem State.relayDown_keeps (s : State) (g : Segment) (t : Telegram) :
    (s.relayDown g t).now = s.now ∧ (s.relayDown g t).hold = s.hold
    ∧ (s.relayDown g t).traffic = s.traffic ∧ (s.relayDown g t).ptw = s.ptw
    ∧ (s.relayDown g t).fcu = s.fcu ∧ (s.relayDown g t).hau = s.hau
    ∧ (s.relayDown g t).vdu = s.vdu ∧ (s.relayDown g t).cue = s.cue
    ∧ (s.relayDown g t).prf = s.prf ∧ (s.relayDown g t).tcu = s.tcu
    ∧ (s.relayDown g t).ntu = s.ntu ∧ (s.relayDown g t).mgr = s.mgr
    ∧ (s.relayDown g t).races = s.races ∧ (s.relayDown g t).pending = s.pending := by
  simp only [State.relayDown]
  (repeat' split) <;> simp

@[simp] theorem State.relayBoth_keeps (s : State) (t : Telegram) :
    (s.relayBoth t).now = s.now ∧ (s.relayBoth t).hold = s.hold
    ∧ (s.relayBoth t).traffic = s.traffic ∧ (s.relayBoth t).ptw = s.ptw
    ∧ (s.relayBoth t).fcu = s.fcu ∧ (s.relayBoth t).hau = s.hau ∧ (s.relayBoth t).vdu = s.vdu
    ∧ (s.relayBoth t).cue = s.cue ∧ (s.relayBoth t).prf = s.prf ∧ (s.relayBoth t).tcu = s.tcu
    ∧ (s.relayBoth t).ntu = s.ntu ∧ (s.relayBoth t).mgr = s.mgr ∧ (s.relayBoth t).races = s.races
    ∧ (s.relayBoth t).pending = s.pending := by
  simp only [State.relayBoth]
  simp

@[simp] theorem State.filterEntries_keeps (s : State) (n : Nat) (l : List (Byte × Byte × Byte)) :
    ((s.filterEntries n l).2).now = s.now ∧ ((s.filterEntries n l).2).hold = s.hold
    ∧ ((s.filterEntries n l).2).plant = s.plant ∧ ((s.filterEntries n l).2).bowl = s.bowl
    ∧ ((s.filterEntries n l).2).supervisor = s.supervisor
    ∧ ((s.filterEntries n l).2).traffic = s.traffic ∧ ((s.filterEntries n l).2).fcu = s.fcu
    ∧ ((s.filterEntries n l).2).hau = s.hau ∧ ((s.filterEntries n l).2).vdu = s.vdu
    ∧ ((s.filterEntries n l).2).cue = s.cue ∧ ((s.filterEntries n l).2).prf = s.prf
    ∧ ((s.filterEntries n l).2).tcu = s.tcu ∧ ((s.filterEntries n l).2).mgr = s.mgr
    ∧ ((s.filterEntries n l).2).races = s.races ∧ ((s.filterEntries n l).2).pending = s.pending := by
  exact ⟨foldl_pair_keeps State.now _ (fun _ _ => by simp) _ _,
    foldl_pair_keeps State.hold _ (fun _ _ => by simp) _ _,
    foldl_pair_keeps State.plant _ (fun _ _ => by simp) _ _,
    foldl_pair_keeps State.bowl _ (fun _ _ => by simp) _ _,
    foldl_pair_keeps State.supervisor _ (fun _ _ => by simp) _ _,
    foldl_pair_keeps State.traffic _ (fun _ _ => by simp) _ _,
    foldl_pair_keeps State.fcu _ (fun _ _ => by simp) _ _,
    foldl_pair_keeps State.hau _ (fun _ _ => by simp) _ _,
    foldl_pair_keeps State.vdu _ (fun _ _ => by simp) _ _,
    foldl_pair_keeps State.cue _ (fun _ _ => by simp) _ _,
    foldl_pair_keeps State.prf _ (fun _ _ => by simp) _ _,
    foldl_pair_keeps State.tcu _ (fun _ _ => by simp) _ _,
    foldl_pair_keeps State.mgr _ (fun _ _ => by simp) _ _,
    foldl_pair_keeps State.races _ (fun _ _ => by simp) _ _,
    foldl_pair_keeps State.pending _ (fun _ _ => by simp) _ _⟩

@[simp] theorem State.readingEntries_keeps (s : State) (n : Nat) (l : List (Nat × Int × Byte)) :
    ((s.readingEntries n l).2.2).now = s.now ∧ ((s.readingEntries n l).2.2).hold = s.hold
    ∧ ((s.readingEntries n l).2.2).plant = s.plant ∧ ((s.readingEntries n l).2.2).bowl = s.bowl
    ∧ ((s.readingEntries n l).2.2).supervisor = s.supervisor
    ∧ ((s.readingEntries n l).2.2).traffic = s.traffic ∧ ((s.readingEntries n l).2.2).fcu = s.fcu
    ∧ ((s.readingEntries n l).2.2).hau = s.hau ∧ ((s.readingEntries n l).2.2).vdu = s.vdu
    ∧ ((s.readingEntries n l).2.2).mgr = s.mgr ∧ ((s.readingEntries n l).2.2).races = s.races
    ∧ ((s.readingEntries n l).2.2).pending = s.pending := by
  exact ⟨foldl_triple_keeps State.now _ (fun _ _ => by simp) _ _,
    foldl_triple_keeps State.hold _ (fun _ _ => by simp) _ _,
    foldl_triple_keeps State.plant _ (fun _ _ => by simp) _ _,
    foldl_triple_keeps State.bowl _ (fun _ _ => by simp) _ _,
    foldl_triple_keeps State.supervisor _ (fun _ _ => by simp) _ _,
    foldl_triple_keeps State.traffic _ (fun _ _ => by simp) _ _,
    foldl_triple_keeps State.fcu _ (fun _ _ => by simp) _ _,
    foldl_triple_keeps State.hau _ (fun _ _ => by simp) _ _,
    foldl_triple_keeps State.vdu _ (fun _ _ => by simp) _ _,
    foldl_triple_keeps State.mgr _ (fun _ _ => by simp) _ _,
    foldl_triple_keeps State.races _ (fun _ _ => by simp) _ _,
    foldl_triple_keeps State.pending _ (fun _ _ => by simp) _ _⟩

@[simp] theorem State.takeFieldTelegram_keeps (s : State) (g : Segment) (t : Telegram) (n : ReplyNote) :
    (s.takeFieldTelegram g t n).now = s.now ∧ (s.takeFieldTelegram g t n).hold = s.hold
    ∧ (s.takeFieldTelegram g t n).fcu = s.fcu ∧ (s.takeFieldTelegram g t n).hau = s.hau
    ∧ (s.takeFieldTelegram g t n).vdu = s.vdu ∧ (s.takeFieldTelegram g t n).mgr = s.mgr
    ∧ (s.takeFieldTelegram g t n).races = s.races
    ∧ (s.takeFieldTelegram g t n).pending = s.pending := by
  simp only [State.takeFieldTelegram]
  (repeat' split) <;> simp

@[simp] theorem State.filterDown_keeps (s : State) (t : Telegram) :
    ((s.filterDown t).2).now = s.now ∧ ((s.filterDown t).2).hold = s.hold
    ∧ ((s.filterDown t).2).plant = s.plant ∧ ((s.filterDown t).2).bowl = s.bowl
    ∧ ((s.filterDown t).2).traffic = s.traffic ∧ ((s.filterDown t).2).fcu = s.fcu
    ∧ ((s.filterDown t).2).hau = s.hau ∧ ((s.filterDown t).2).vdu = s.vdu
    ∧ ((s.filterDown t).2).cue = s.cue ∧ ((s.filterDown t).2).prf = s.prf
    ∧ ((s.filterDown t).2).tcu = s.tcu ∧ ((s.filterDown t).2).mgr = s.mgr
    ∧ ((s.filterDown t).2).races = s.races ∧ ((s.filterDown t).2).pending = s.pending := by
  simp only [State.filterDown]
  (repeat' split) <;> simp

@[simp] theorem State.takeSupervisorTelegram_keeps (s : State) (t : Telegram) :
    (s.takeSupervisorTelegram t).now = s.now ∧ (s.takeSupervisorTelegram t).hold = s.hold
    ∧ (s.takeSupervisorTelegram t).traffic = s.traffic ∧ (s.takeSupervisorTelegram t).fcu = s.fcu
    ∧ (s.takeSupervisorTelegram t).hau = s.hau ∧ (s.takeSupervisorTelegram t).vdu = s.vdu
    ∧ (s.takeSupervisorTelegram t).cue = s.cue ∧ (s.takeSupervisorTelegram t).prf = s.prf
    ∧ (s.takeSupervisorTelegram t).tcu = s.tcu ∧ (s.takeSupervisorTelegram t).mgr = s.mgr
    ∧ (s.takeSupervisorTelegram t).races = s.races
    ∧ (s.takeSupervisorTelegram t).pending = s.pending := by
  simp only [State.takeSupervisorTelegram]
  (repeat' split) <;> simp

@[simp] theorem State.takeInbound_keeps (s : State) :
    (s.takeInbound).now = s.now ∧ (s.takeInbound).hold = s.hold ∧ (s.takeInbound).fcu = s.fcu
    ∧ (s.takeInbound).hau = s.hau ∧ (s.takeInbound).vdu = s.vdu ∧ (s.takeInbound).mgr = s.mgr
    ∧ (s.takeInbound).races = s.races ∧ (s.takeInbound).pending = s.pending := by
  simp only [State.takeInbound]
  (repeat' split) <;> simp

@[simp] theorem State.takePending_keeps (s : State) (i : Fin 256) :
    (s.takePending i).now = s.now ∧ (s.takePending i).hold = s.hold
    ∧ (s.takePending i).plant = s.plant ∧ (s.takePending i).bowl = s.bowl
    ∧ (s.takePending i).supervisor = s.supervisor ∧ (s.takePending i).traffic = s.traffic
    ∧ (s.takePending i).fcu = s.fcu ∧ (s.takePending i).hau = s.hau
    ∧ (s.takePending i).vdu = s.vdu ∧ (s.takePending i).cue = s.cue
    ∧ (s.takePending i).prf = s.prf ∧ (s.takePending i).tcu = s.tcu
    ∧ (s.takePending i).ntu = s.ntu ∧ (s.takePending i).mgr = s.mgr
    ∧ (s.takePending i).races = s.races ∧ (s.takePending i).pending = s.pending := by
  simp only [State.takePending]
  simp

@[simp] theorem State.takeAll_keeps (s : State) (l : List (Fin 256)) :
    (l.foldl State.takePending s).now = s.now ∧ (l.foldl State.takePending s).hold = s.hold
    ∧ (l.foldl State.takePending s).plant = s.plant ∧ (l.foldl State.takePending s).bowl = s.bowl
    ∧ (l.foldl State.takePending s).supervisor = s.supervisor
    ∧ (l.foldl State.takePending s).traffic = s.traffic
    ∧ (l.foldl State.takePending s).fcu = s.fcu ∧ (l.foldl State.takePending s).hau = s.hau
    ∧ (l.foldl State.takePending s).vdu = s.vdu ∧ (l.foldl State.takePending s).cue = s.cue
    ∧ (l.foldl State.takePending s).prf = s.prf ∧ (l.foldl State.takePending s).tcu = s.tcu
    ∧ (l.foldl State.takePending s).ntu = s.ntu ∧ (l.foldl State.takePending s).mgr = s.mgr
    ∧ (l.foldl State.takePending s).races = s.races
    ∧ (l.foldl State.takePending s).pending = s.pending := by
  exact ⟨foldl_keeps State.now _ (fun _ _ => by simp) _ _,
    foldl_keeps State.hold _ (fun _ _ => by simp) _ _,
    foldl_keeps State.plant _ (fun _ _ => by simp) _ _,
    foldl_keeps State.bowl _ (fun _ _ => by simp) _ _,
    foldl_keeps State.supervisor _ (fun _ _ => by simp) _ _,
    foldl_keeps State.traffic _ (fun _ _ => by simp) _ _,
    foldl_keeps State.fcu _ (fun _ _ => by simp) _ _,
    foldl_keeps State.hau _ (fun _ _ => by simp) _ _,
    foldl_keeps State.vdu _ (fun _ _ => by simp) _ _,
    foldl_keeps State.cue _ (fun _ _ => by simp) _ _,
    foldl_keeps State.prf _ (fun _ _ => by simp) _ _,
    foldl_keeps State.tcu _ (fun _ _ => by simp) _ _,
    foldl_keeps State.ntu _ (fun _ _ => by simp) _ _,
    foldl_keeps State.mgr _ (fun _ _ => by simp) _ _,
    foldl_keeps State.races _ (fun _ _ => by simp) _ _,
    foldl_keeps State.pending _ (fun _ _ => by simp) _ _⟩

@[simp] theorem State.sendCommand_keeps (s : State) (g : Segment) (n : Nat) :
    (s.sendCommand g n).now = s.now ∧ (s.sendCommand g n).hold = s.hold
    ∧ (s.sendCommand g n).supervisor = s.supervisor ∧ (s.sendCommand g n).traffic = s.traffic
    ∧ (s.sendCommand g n).fcu = s.fcu ∧ (s.sendCommand g n).hau = s.hau
    ∧ (s.sendCommand g n).vdu = s.vdu ∧ (s.sendCommand g n).cue = s.cue
    ∧ (s.sendCommand g n).prf = s.prf ∧ (s.sendCommand g n).tcu = s.tcu
    ∧ (s.sendCommand g n).ntu = s.ntu ∧ (s.sendCommand g n).mgr = s.mgr
    ∧ (s.sendCommand g n).races = s.races ∧ (s.sendCommand g n).pending = s.pending := by
  simp only [State.sendCommand]
  simp

@[simp] theorem State.sendLevels_keeps (s : State) (b : Fin 16) :
    (s.sendLevels b).now = s.now ∧ (s.sendLevels b).hold = s.hold
    ∧ (s.sendLevels b).plant = s.plant ∧ (s.sendLevels b).supervisor = s.supervisor
    ∧ (s.sendLevels b).ptw = s.ptw ∧ (s.sendLevels b).fcu = s.fcu ∧ (s.sendLevels b).hau = s.hau
    ∧ (s.sendLevels b).vdu = s.vdu ∧ (s.sendLevels b).prf = s.prf ∧ (s.sendLevels b).tcu = s.tcu
    ∧ (s.sendLevels b).ntu = s.ntu ∧ (s.sendLevels b).mgr = s.mgr
    ∧ (s.sendLevels b).races = s.races ∧ (s.sendLevels b).pending = s.pending := by
  simp only [State.sendLevels, State.sendField]
  simp

@[simp] theorem State.sendPoll_keeps (s : State) (g : Segment) (i : Fin 32) :
    (s.sendPoll g i).now = s.now ∧ (s.sendPoll g i).hold = s.hold
    ∧ (s.sendPoll g i).supervisor = s.supervisor ∧ (s.sendPoll g i).traffic = s.traffic
    ∧ (s.sendPoll g i).ptw = s.ptw ∧ (s.sendPoll g i).fcu = s.fcu ∧ (s.sendPoll g i).hau = s.hau
    ∧ (s.sendPoll g i).vdu = s.vdu ∧ (s.sendPoll g i).cue = s.cue ∧ (s.sendPoll g i).prf = s.prf
    ∧ (s.sendPoll g i).tcu = s.tcu ∧ (s.sendPoll g i).ntu = s.ntu ∧ (s.sendPoll g i).mgr = s.mgr
    ∧ (s.sendPoll g i).races = s.races ∧ (s.sendPoll g i).pending = s.pending := by
  simp only [State.sendPoll]
  simp

@[simp] theorem State.sendRelay_keeps (s : State) (g : Segment) (t : Telegram) (l : List Telegram) :
    (s.sendRelay g t l).now = s.now ∧ (s.sendRelay g t l).hold = s.hold
    ∧ (s.sendRelay g t l).supervisor = s.supervisor ∧ (s.sendRelay g t l).traffic = s.traffic
    ∧ (s.sendRelay g t l).ptw = s.ptw ∧ (s.sendRelay g t l).fcu = s.fcu
    ∧ (s.sendRelay g t l).hau = s.hau ∧ (s.sendRelay g t l).vdu = s.vdu
    ∧ (s.sendRelay g t l).cue = s.cue ∧ (s.sendRelay g t l).prf = s.prf
    ∧ (s.sendRelay g t l).tcu = s.tcu ∧ (s.sendRelay g t l).ntu = s.ntu
    ∧ (s.sendRelay g t l).mgr = s.mgr ∧ (s.sendRelay g t l).races = s.races
    ∧ (s.sendRelay g t l).pending = s.pending := by
  simp only [State.sendRelay]
  simp

@[simp] theorem State.chooseLow_keeps (s : State) (g : Segment) (d : Option (Fin 32)) :
    (s.chooseLow g d).now = s.now ∧ (s.chooseLow g d).hold = s.hold
    ∧ (s.chooseLow g d).supervisor = s.supervisor ∧ (s.chooseLow g d).fcu = s.fcu
    ∧ (s.chooseLow g d).hau = s.hau ∧ (s.chooseLow g d).vdu = s.vdu
    ∧ (s.chooseLow g d).prf = s.prf ∧ (s.chooseLow g d).tcu = s.tcu
    ∧ (s.chooseLow g d).ntu = s.ntu ∧ (s.chooseLow g d).mgr = s.mgr
    ∧ (s.chooseLow g d).races = s.races ∧ (s.chooseLow g d).pending = s.pending := by
  simp only [State.chooseLow]
  (repeat' split) <;> simp

@[simp] theorem State.chooseInOrder_keeps (s : State) (g : Segment) (d : Option (Fin 32)) :
    (s.chooseInOrder g d).now = s.now ∧ (s.chooseInOrder g d).hold = s.hold
    ∧ (s.chooseInOrder g d).supervisor = s.supervisor ∧ (s.chooseInOrder g d).fcu = s.fcu
    ∧ (s.chooseInOrder g d).hau = s.hau ∧ (s.chooseInOrder g d).vdu = s.vdu
    ∧ (s.chooseInOrder g d).prf = s.prf ∧ (s.chooseInOrder g d).tcu = s.tcu
    ∧ (s.chooseInOrder g d).ntu = s.ntu ∧ (s.chooseInOrder g d).mgr = s.mgr
    ∧ (s.chooseInOrder g d).races = s.races ∧ (s.chooseInOrder g d).pending = s.pending := by
  simp only [State.chooseInOrder]
  (repeat' split) <;> simp

@[simp] theorem State.choose_keeps (s : State) (g : Segment) :
    (s.choose g).now = s.now ∧ (s.choose g).hold = s.hold ∧ (s.choose g).supervisor = s.supervisor
    ∧ (s.choose g).fcu = s.fcu ∧ (s.choose g).hau = s.hau ∧ (s.choose g).vdu = s.vdu
    ∧ (s.choose g).prf = s.prf ∧ (s.choose g).tcu = s.tcu ∧ (s.choose g).ntu = s.ntu
    ∧ (s.choose g).mgr = s.mgr ∧ (s.choose g).races = s.races ∧ (s.choose g).pending = s.pending := by
  simp only [State.choose]
  (repeat' split) <;> simp

@[simp] theorem State.schedule_keeps (s : State) (g : Segment) :
    (s.schedule g).now = s.now ∧ (s.schedule g).hold = s.hold
    ∧ (s.schedule g).supervisor = s.supervisor ∧ (s.schedule g).fcu = s.fcu
    ∧ (s.schedule g).hau = s.hau ∧ (s.schedule g).vdu = s.vdu ∧ (s.schedule g).prf = s.prf
    ∧ (s.schedule g).tcu = s.tcu ∧ (s.schedule g).ntu = s.ntu ∧ (s.schedule g).mgr = s.mgr
    ∧ (s.schedule g).races = s.races ∧ (s.schedule g).pending = s.pending := by
  simp only [State.schedule]
  (repeat' split) <;> simp

@[simp] theorem State.sendNotice_keeps (s : State) (x : Source) :
    (s.sendNotice x).now = s.now ∧ (s.sendNotice x).hold = s.hold
    ∧ (s.sendNotice x).plant = s.plant ∧ (s.sendNotice x).bowl = s.bowl
    ∧ (s.sendNotice x).traffic = s.traffic ∧ (s.sendNotice x).ptw = s.ptw
    ∧ (s.sendNotice x).fcu = s.fcu ∧ (s.sendNotice x).hau = s.hau ∧ (s.sendNotice x).vdu = s.vdu
    ∧ (s.sendNotice x).cue = s.cue ∧ (s.sendNotice x).prf = s.prf ∧ (s.sendNotice x).tcu = s.tcu
    ∧ (s.sendNotice x).mgr = s.mgr ∧ (s.sendNotice x).races = s.races
    ∧ (s.sendNotice x).pending = s.pending := by
  simp only [State.sendNotice]
  simp

@[simp] theorem State.chooseUp_keeps (s : State) :
    (s.chooseUp).now = s.now ∧ (s.chooseUp).hold = s.hold ∧ (s.chooseUp).plant = s.plant
    ∧ (s.chooseUp).bowl = s.bowl ∧ (s.chooseUp).ptw = s.ptw ∧ (s.chooseUp).fcu = s.fcu
    ∧ (s.chooseUp).hau = s.hau ∧ (s.chooseUp).vdu = s.vdu ∧ (s.chooseUp).cue = s.cue
    ∧ (s.chooseUp).prf = s.prf ∧ (s.chooseUp).tcu = s.tcu ∧ (s.chooseUp).mgr = s.mgr
    ∧ (s.chooseUp).races = s.races ∧ (s.chooseUp).pending = s.pending := by
  simp only [State.chooseUp]
  (repeat' split) <;> simp

@[simp] theorem State.sendNext_keeps (s : State) :
    (s.sendNext).now = s.now ∧ (s.sendNext).hold = s.hold ∧ (s.sendNext).plant = s.plant
    ∧ (s.sendNext).bowl = s.bowl ∧ (s.sendNext).ptw = s.ptw ∧ (s.sendNext).fcu = s.fcu
    ∧ (s.sendNext).hau = s.hau ∧ (s.sendNext).vdu = s.vdu ∧ (s.sendNext).cue = s.cue
    ∧ (s.sendNext).prf = s.prf ∧ (s.sendNext).tcu = s.tcu ∧ (s.sendNext).mgr = s.mgr
    ∧ (s.sendNext).races = s.races ∧ (s.sendNext).pending = s.pending := by
  simp only [State.sendNext]
  (repeat' split) <;> simp

@[simp] theorem State.arbitrate_keeps (s : State) :
    (s.arbitrate).now = s.now ∧ (s.arbitrate).hold = s.hold ∧ (s.arbitrate).fcu = s.fcu
    ∧ (s.arbitrate).hau = s.hau ∧ (s.arbitrate).vdu = s.vdu ∧ (s.arbitrate).prf = s.prf
    ∧ (s.arbitrate).tcu = s.tcu ∧ (s.arbitrate).mgr = s.mgr ∧ (s.arbitrate).races = s.races
    ∧ (s.arbitrate).pending = s.pending := by
  simp only [State.arbitrate]
  (repeat' split) <;> simp

@[simp] theorem State.reply_keeps (s : State) (a c t : Byte) (x : Status) (d : List Byte) :
    (s.reply a c t x d).now = s.now ∧ (s.reply a c t x d).hold = s.hold
    ∧ (s.reply a c t x d).plant = s.plant ∧ (s.reply a c t x d).bowl = s.bowl
    ∧ (s.reply a c t x d).supervisor = s.supervisor ∧ (s.reply a c t x d).traffic = s.traffic
    ∧ (s.reply a c t x d).ptw = s.ptw ∧ (s.reply a c t x d).fcu = s.fcu
    ∧ (s.reply a c t x d).hau = s.hau ∧ (s.reply a c t x d).vdu = s.vdu
    ∧ (s.reply a c t x d).cue = s.cue ∧ (s.reply a c t x d).prf = s.prf
    ∧ (s.reply a c t x d).tcu = s.tcu ∧ (s.reply a c t x d).ntu = s.ntu
    ∧ (s.reply a c t x d).races = s.races ∧ (s.reply a c t x d).pending = s.pending := by
  simp only [State.reply]
  simp

/-- What R27 does to a port whose window may await a station taken out: the window alone is marked. -/
@[simp] theorem FieldPort.withoutEntry_keeps (f : FieldPort) (n : Nat) :
    (f.withoutEntry n).line = f.line ∧ (f.withoutEntry n).newDivisor = f.newDivisor
    ∧ (f.withoutEntry n).quiet = f.quiet ∧ (f.withoutEntry n).polls = f.polls
    ∧ (f.withoutEntry n).window = f.window.map (·.without n)
    ∧ (f.withoutEntry n).windowLength = f.windowLength
    ∧ (f.withoutEntry n).forwardUnmatched = f.forwardUnmatched
    ∧ (f.withoutEntry n).relayDown = f.relayDown ∧ (f.withoutEntry n).nonPoll = f.nonPoll :=
  ⟨rfl, rfl, rfl, rfl, rfl, rfl, rfl, rfl, rfl⟩

@[simp] theorem State.withoutEntry_keeps (s : State) (n : Nat) :
    (s.withoutEntry n).now = s.now ∧ (s.withoutEntry n).hold = s.hold
    ∧ (s.withoutEntry n).plant = s.plant.withoutEntry n
    ∧ (s.withoutEntry n).bowl = s.bowl.withoutEntry n
    ∧ (s.withoutEntry n).supervisor = s.supervisor ∧ (s.withoutEntry n).traffic = s.traffic
    ∧ (s.withoutEntry n).ptw = s.ptw ∧ (s.withoutEntry n).fcu = s.fcu
    ∧ (s.withoutEntry n).hau = s.hau ∧ (s.withoutEntry n).vdu = s.vdu
    ∧ (s.withoutEntry n).cue = s.cue ∧ (s.withoutEntry n).prf = s.prf
    ∧ (s.withoutEntry n).tcu = s.tcu ∧ (s.withoutEntry n).ntu = s.ntu
    ∧ (s.withoutEntry n).mgr = s.mgr ∧ (s.withoutEntry n).races = s.races
    ∧ (s.withoutEntry n).pending = s.pending := by
  simp [State.withoutEntry]

/-- The field ports after R27's mark: each is marked alike. -/
@[simp] theorem State.withoutEntry_field (s : State) (n : Nat) (g : Segment) :
    (s.withoutEntry n).field g = (s.field g).withoutEntry n := by
  cases g <;> simp [State.field]

@[simp] theorem State.storePoll_keeps (s : State) (g : Segment) (i : Fin 32) (a b : Nat) :
    (s.storePoll g i a b).now = s.now ∧ (s.storePoll g i a b).hold = s.hold
    ∧ (s.storePoll g i a b).supervisor = s.supervisor ∧ (s.storePoll g i a b).traffic = s.traffic
    ∧ (s.storePoll g i a b).ptw = s.ptw ∧ (s.storePoll g i a b).fcu = s.fcu
    ∧ (s.storePoll g i a b).hau = s.hau ∧ (s.storePoll g i a b).vdu = s.vdu
    ∧ (s.storePoll g i a b).cue = s.cue ∧ (s.storePoll g i a b).prf = s.prf
    ∧ (s.storePoll g i a b).tcu = s.tcu ∧ (s.storePoll g i a b).ntu = s.ntu
    ∧ (s.storePoll g i a b).mgr = s.mgr ∧ (s.storePoll g i a b).races = s.races
    ∧ (s.storePoll g i a b).pending = s.pending := by
  simp only [State.storePoll]
  split <;> simp

/-- What the write of a poll entry leaves in either field port (R27): the windows are marked when the slot
loses its station, and the slot of the port named is written. -/
theorem State.storePoll_field (s : State) (g h : Segment) (i : Fin 32) (a b : Nat) :
    (s.storePoll g i a b).field h =
      let old := (s.field g).polls[i].station
      let f := if old ≠ 0 ∧ old ≠ a then (s.field h).withoutEntry old else s.field h
      if h = g then { f with polls := f.polls.set i (.written a b) } else f := by
  simp only [State.storePoll]
  split <;> cases g <;> cases h <;> rfl

@[simp] theorem State.storeFieldPort_keeps (s : State) (g : Segment) (a b : Nat) :
    (s.storeFieldPort g a b).now = s.now ∧ (s.storeFieldPort g a b).hold = s.hold
    ∧ (s.storeFieldPort g a b).supervisor = s.supervisor
    ∧ (s.storeFieldPort g a b).traffic = s.traffic ∧ (s.storeFieldPort g a b).ptw = s.ptw
    ∧ (s.storeFieldPort g a b).fcu = s.fcu ∧ (s.storeFieldPort g a b).hau = s.hau
    ∧ (s.storeFieldPort g a b).vdu = s.vdu ∧ (s.storeFieldPort g a b).cue = s.cue
    ∧ (s.storeFieldPort g a b).prf = s.prf ∧ (s.storeFieldPort g a b).tcu = s.tcu
    ∧ (s.storeFieldPort g a b).ntu = s.ntu ∧ (s.storeFieldPort g a b).mgr = s.mgr
    ∧ (s.storeFieldPort g a b).races = s.races ∧ (s.storeFieldPort g a b).pending = s.pending := by
  simp only [State.storeFieldPort]
  simp

@[simp] theorem State.storeConstants_keeps (s : State) (k q c : Nat) :
    (s.storeConstants k q c).now = s.now ∧ (s.storeConstants k q c).hold = s.hold
    ∧ (s.storeConstants k q c).plant = s.plant ∧ (s.storeConstants k q c).bowl = s.bowl
    ∧ (s.storeConstants k q c).supervisor = s.supervisor
    ∧ (s.storeConstants k q c).traffic = s.traffic ∧ (s.storeConstants k q c).vdu = s.vdu
    ∧ (s.storeConstants k q c).cue = s.cue ∧ (s.storeConstants k q c).prf = s.prf
    ∧ (s.storeConstants k q c).tcu = s.tcu ∧ (s.storeConstants k q c).mgr = s.mgr
    ∧ (s.storeConstants k q c).races = s.races ∧ (s.storeConstants k q c).pending = s.pending := by
  simp [State.storeConstants]

@[simp] theorem State.setRate_keeps (s : State) (p : Fin 3) (e n : Nat) :
    (s.setRate p e n).now = s.now ∧ (s.setRate p e n).hold = s.hold
    ∧ (s.setRate p e n).traffic = s.traffic ∧ (s.setRate p e n).ptw = s.ptw
    ∧ (s.setRate p e n).fcu = s.fcu ∧ (s.setRate p e n).hau = s.hau
    ∧ (s.setRate p e n).vdu = s.vdu ∧ (s.setRate p e n).cue = s.cue
    ∧ (s.setRate p e n).prf = s.prf ∧ (s.setRate p e n).tcu = s.tcu
    ∧ (s.setRate p e n).ntu = s.ntu ∧ (s.setRate p e n).mgr = s.mgr
    ∧ (s.setRate p e n).races = s.races ∧ (s.setRate p e n).pending = s.pending := by
  simp only [State.setRate]
  (repeat' split) <;> simp

@[simp] theorem State.carryClearFault_keeps (s : State) (r : Request) :
    (s.carryClearFault r).now = s.now ∧ (s.carryClearFault r).hold = s.hold
    ∧ (s.carryClearFault r).plant = s.plant ∧ (s.carryClearFault r).bowl = s.bowl
    ∧ (s.carryClearFault r).supervisor = s.supervisor ∧ (s.carryClearFault r).traffic = s.traffic
    ∧ (s.carryClearFault r).ptw = s.ptw ∧ (s.carryClearFault r).fcu = s.fcu
    ∧ (s.carryClearFault r).hau = s.hau ∧ (s.carryClearFault r).cue = s.cue
    ∧ (s.carryClearFault r).prf = s.prf ∧ (s.carryClearFault r).tcu = s.tcu
    ∧ (s.carryClearFault r).ntu = s.ntu ∧ (s.carryClearFault r).races = s.races
    ∧ (s.carryClearFault r).pending = s.pending := by
  simp only [State.carryClearFault, Answer.place, State.refuse]
  (repeat' split) <;> simp

@[simp] theorem State.carryUnknown_keeps (s : State) (a : Byte) (b : List Byte) :
    (s.carryUnknown a b).now = s.now ∧ (s.carryUnknown a b).hold = s.hold
    ∧ (s.carryUnknown a b).plant = s.plant ∧ (s.carryUnknown a b).bowl = s.bowl
    ∧ (s.carryUnknown a b).supervisor = s.supervisor ∧ (s.carryUnknown a b).traffic = s.traffic
    ∧ (s.carryUnknown a b).ptw = s.ptw ∧ (s.carryUnknown a b).fcu = s.fcu
    ∧ (s.carryUnknown a b).hau = s.hau ∧ (s.carryUnknown a b).vdu = s.vdu
    ∧ (s.carryUnknown a b).cue = s.cue ∧ (s.carryUnknown a b).prf = s.prf
    ∧ (s.carryUnknown a b).tcu = s.tcu ∧ (s.carryUnknown a b).ntu = s.ntu
    ∧ (s.carryUnknown a b).races = s.races ∧ (s.carryUnknown a b).pending = s.pending := by
  simp only [State.carryUnknown]
  simp

@[simp] theorem State.searchFailure_keeps (s : State) :
    (s.searchFailure).now = s.now ∧ (s.searchFailure).hold = s.hold
    ∧ (s.searchFailure).traffic = s.traffic ∧ (s.searchFailure).ptw = s.ptw
    ∧ (s.searchFailure).fcu = s.fcu ∧ (s.searchFailure).hau = s.hau
    ∧ (s.searchFailure).vdu = s.vdu ∧ (s.searchFailure).cue = s.cue
    ∧ (s.searchFailure).prf = s.prf ∧ (s.searchFailure).tcu = s.tcu
    ∧ (s.searchFailure).mgr = s.mgr ∧ (s.searchFailure).races = s.races
    ∧ (s.searchFailure).pending = s.pending := by
  simp only [State.searchFailure]
  (repeat' split) <;> simp

@[simp] theorem State.lineFailure_keeps (s : State) (p : Port) (e : PortEvent) :
    (s.lineFailure p e).now = s.now ∧ (s.lineFailure p e).hold = s.hold
    ∧ (s.lineFailure p e).traffic = s.traffic ∧ (s.lineFailure p e).ptw = s.ptw
    ∧ (s.lineFailure p e).fcu = s.fcu ∧ (s.lineFailure p e).hau = s.hau
    ∧ (s.lineFailure p e).vdu = s.vdu ∧ (s.lineFailure p e).cue = s.cue
    ∧ (s.lineFailure p e).prf = s.prf ∧ (s.lineFailure p e).tcu = s.tcu
    ∧ (s.lineFailure p e).mgr = s.mgr ∧ (s.lineFailure p e).races = s.races
    ∧ (s.lineFailure p e).pending = s.pending := by
  simp only [State.lineFailure]
  (repeat' split) <;> simp

@[simp] theorem State.goodField_keeps (s : State) (g : Segment) (t : Telegram) :
    (s.goodField g t).now = s.now ∧ (s.goodField g t).hold = s.hold
    ∧ (s.goodField g t).ptw = s.ptw ∧ (s.goodField g t).fcu = s.fcu
    ∧ (s.goodField g t).hau = s.hau ∧ (s.goodField g t).vdu = s.vdu
    ∧ (s.goodField g t).cue = s.cue ∧ (s.goodField g t).prf = s.prf
    ∧ (s.goodField g t).tcu = s.tcu ∧ (s.goodField g t).mgr = s.mgr
    ∧ (s.goodField g t).races = s.races ∧ (s.goodField g t).pending = s.pending := by
  simp only [State.goodField]
  simp

@[simp] theorem State.enqueueRequest_keeps (s : State) (t : Telegram) :
    (s.enqueueRequest t).now = s.now ∧ (s.enqueueRequest t).hold = s.hold
    ∧ (s.enqueueRequest t).traffic = s.traffic ∧ (s.enqueueRequest t).ptw = s.ptw
    ∧ (s.enqueueRequest t).fcu = s.fcu ∧ (s.enqueueRequest t).hau = s.hau
    ∧ (s.enqueueRequest t).vdu = s.vdu ∧ (s.enqueueRequest t).cue = s.cue
    ∧ (s.enqueueRequest t).prf = s.prf ∧ (s.enqueueRequest t).tcu = s.tcu
    ∧ (s.enqueueRequest t).races = s.races ∧ (s.enqueueRequest t).pending = s.pending := by
  simp only [State.enqueueRequest]
  (repeat' split) <;> simp

@[simp] theorem State.markEnd_keeps (s : State) (p : Port) :
    (s.markEnd p).now = s.now ∧ (s.markEnd p).hold = s.hold ∧ (s.markEnd p).traffic = s.traffic
    ∧ (s.markEnd p).ptw = s.ptw ∧ (s.markEnd p).fcu = s.fcu ∧ (s.markEnd p).hau = s.hau
    ∧ (s.markEnd p).vdu = s.vdu ∧ (s.markEnd p).cue = s.cue ∧ (s.markEnd p).prf = s.prf
    ∧ (s.markEnd p).tcu = s.tcu ∧ (s.markEnd p).ntu = s.ntu ∧ (s.markEnd p).mgr = s.mgr
    ∧ (s.markEnd p).races = s.races ∧ (s.markEnd p).pending = s.pending := by
  simp only [State.markEnd]
  (repeat' split) <;> simp

@[simp] theorem State.gapExpired_keeps (s : State) (p : Port) :
    (s.gapExpired p).now = s.now ∧ (s.gapExpired p).hold = s.hold
    ∧ (s.gapExpired p).traffic = s.traffic ∧ (s.gapExpired p).ptw = s.ptw
    ∧ (s.gapExpired p).fcu = s.fcu ∧ (s.gapExpired p).hau = s.hau
    ∧ (s.gapExpired p).vdu = s.vdu ∧ (s.gapExpired p).cue = s.cue
    ∧ (s.gapExpired p).prf = s.prf ∧ (s.gapExpired p).tcu = s.tcu
    ∧ (s.gapExpired p).mgr = s.mgr ∧ (s.gapExpired p).races = s.races
    ∧ (s.gapExpired p).pending = s.pending := by
  simp [State.gapExpired]

@[simp] theorem State.gapTimerExpiry_keeps (s : State) (p : Port) :
    (s.gapTimerExpiry p).hold = s.hold ∧ (s.gapTimerExpiry p).traffic = s.traffic
    ∧ (s.gapTimerExpiry p).ptw = s.ptw ∧ (s.gapTimerExpiry p).fcu = s.fcu
    ∧ (s.gapTimerExpiry p).hau = s.hau ∧ (s.gapTimerExpiry p).vdu = s.vdu
    ∧ (s.gapTimerExpiry p).cue = s.cue ∧ (s.gapTimerExpiry p).prf = s.prf
    ∧ (s.gapTimerExpiry p).tcu = s.tcu ∧ (s.gapTimerExpiry p).mgr = s.mgr
    ∧ (s.gapTimerExpiry p).races = s.races ∧ (s.gapTimerExpiry p).pending = s.pending := by
  simp only [State.gapTimerExpiry]
  (repeat' split) <;> simp

@[simp] theorem State.portQuiet_keeps (s : State) (g : Segment) :
    (s.portQuiet g).hold = s.hold ∧ (s.portQuiet g).supervisor = s.supervisor
    ∧ (s.portQuiet g).traffic = s.traffic ∧ (s.portQuiet g).ptw = s.ptw
    ∧ (s.portQuiet g).fcu = s.fcu ∧ (s.portQuiet g).hau = s.hau ∧ (s.portQuiet g).vdu = s.vdu
    ∧ (s.portQuiet g).cue = s.cue ∧ (s.portQuiet g).prf = s.prf ∧ (s.portQuiet g).tcu = s.tcu
    ∧ (s.portQuiet g).ntu = s.ntu ∧ (s.portQuiet g).mgr = s.mgr ∧ (s.portQuiet g).races = s.races
    ∧ (s.portQuiet g).pending = s.pending := by
  simp only [State.portQuiet]
  (repeat' split) <;> simp

@[simp] theorem State.pollDue_keeps (s : State) (g : Segment) (i : Fin 32) :
    (s.pollDue g i).hold = s.hold ∧ (s.pollDue g i).plant = s.plant
    ∧ (s.pollDue g i).bowl = s.bowl ∧ (s.pollDue g i).supervisor = s.supervisor
    ∧ (s.pollDue g i).traffic = s.traffic ∧ (s.pollDue g i).ptw = s.ptw
    ∧ (s.pollDue g i).fcu = s.fcu ∧ (s.pollDue g i).hau = s.hau ∧ (s.pollDue g i).vdu = s.vdu
    ∧ (s.pollDue g i).cue = s.cue ∧ (s.pollDue g i).prf = s.prf ∧ (s.pollDue g i).tcu = s.tcu
    ∧ (s.pollDue g i).ntu = s.ntu ∧ (s.pollDue g i).mgr = s.mgr ∧ (s.pollDue g i).races = s.races
    ∧ (s.pollDue g i).pending = s.pending := by
  simp only [State.pollDue]
  (repeat' split) <;> simp

@[simp] theorem State.staleExpiry_keeps (s : State) (i : Fin 256) :
    (s.staleExpiry i).hold = s.hold ∧ (s.staleExpiry i).plant = s.plant
    ∧ (s.staleExpiry i).bowl = s.bowl ∧ (s.staleExpiry i).supervisor = s.supervisor
    ∧ (s.staleExpiry i).traffic = s.traffic ∧ (s.staleExpiry i).fcu = s.fcu
    ∧ (s.staleExpiry i).hau = s.hau ∧ (s.staleExpiry i).vdu = s.vdu
    ∧ (s.staleExpiry i).cue = s.cue ∧ (s.staleExpiry i).prf = s.prf
    ∧ (s.staleExpiry i).mgr = s.mgr ∧ (s.staleExpiry i).races = s.races
    ∧ (s.staleExpiry i).pending = s.pending := by
  simp only [State.staleExpiry]
  (repeat' split) <;> simp

@[simp] theorem State.holdExpiry_keeps (s : State) (i : Fin 256) :
    (s.holdExpiry i).hold = s.hold ∧ (s.holdExpiry i).plant = s.plant
    ∧ (s.holdExpiry i).bowl = s.bowl ∧ (s.holdExpiry i).supervisor = s.supervisor
    ∧ (s.holdExpiry i).traffic = s.traffic ∧ (s.holdExpiry i).fcu = s.fcu
    ∧ (s.holdExpiry i).hau = s.hau ∧ (s.holdExpiry i).vdu = s.vdu ∧ (s.holdExpiry i).cue = s.cue
    ∧ (s.holdExpiry i).prf = s.prf ∧ (s.holdExpiry i).mgr = s.mgr
    ∧ (s.holdExpiry i).races = s.races ∧ (s.holdExpiry i).pending = s.pending := by
  simp only [State.holdExpiry]
  (repeat' split) <;> simp

@[simp] theorem State.refreshExpiry_keeps (s : State) (i : Fin 256) :
    (s.refreshExpiry i).hold = s.hold ∧ (s.refreshExpiry i).plant = s.plant
    ∧ (s.refreshExpiry i).bowl = s.bowl ∧ (s.refreshExpiry i).supervisor = s.supervisor
    ∧ (s.refreshExpiry i).traffic = s.traffic ∧ (s.refreshExpiry i).fcu = s.fcu
    ∧ (s.refreshExpiry i).hau = s.hau ∧ (s.refreshExpiry i).vdu = s.vdu
    ∧ (s.refreshExpiry i).cue = s.cue ∧ (s.refreshExpiry i).prf = s.prf
    ∧ (s.refreshExpiry i).tcu = s.tcu ∧ (s.refreshExpiry i).ntu = s.ntu
    ∧ (s.refreshExpiry i).mgr = s.mgr ∧ (s.refreshExpiry i).races = s.races
    ∧ (s.refreshExpiry i).pending = s.pending := by
  simp only [State.refreshExpiry]
  (repeat' split) <;> simp

@[simp] theorem State.overrideExpiry_keeps (s : State) (i : Fin 256) :
    (s.overrideExpiry i).hold = s.hold ∧ (s.overrideExpiry i).plant = s.plant
    ∧ (s.overrideExpiry i).bowl = s.bowl ∧ (s.overrideExpiry i).supervisor = s.supervisor
    ∧ (s.overrideExpiry i).traffic = s.traffic ∧ (s.overrideExpiry i).fcu = s.fcu
    ∧ (s.overrideExpiry i).hau = s.hau ∧ (s.overrideExpiry i).vdu = s.vdu
    ∧ (s.overrideExpiry i).cue = s.cue ∧ (s.overrideExpiry i).prf = s.prf
    ∧ (s.overrideExpiry i).tcu = s.tcu ∧ (s.overrideExpiry i).mgr = s.mgr
    ∧ (s.overrideExpiry i).races = s.races ∧ (s.overrideExpiry i).pending = s.pending := by
  simp only [State.overrideExpiry]
  (repeat' split) <;> simp

@[simp] theorem State.faultClearPulseEnd_keeps (s : State) (c : Fin 4) :
    (s.faultClearPulseEnd c).hold = s.hold ∧ (s.faultClearPulseEnd c).plant = s.plant
    ∧ (s.faultClearPulseEnd c).bowl = s.bowl ∧ (s.faultClearPulseEnd c).supervisor = s.supervisor
    ∧ (s.faultClearPulseEnd c).traffic = s.traffic ∧ (s.faultClearPulseEnd c).ptw = s.ptw
    ∧ (s.faultClearPulseEnd c).fcu = s.fcu ∧ (s.faultClearPulseEnd c).hau = s.hau
    ∧ (s.faultClearPulseEnd c).cue = s.cue ∧ (s.faultClearPulseEnd c).prf = s.prf
    ∧ (s.faultClearPulseEnd c).races = s.races ∧ (s.faultClearPulseEnd c).pending = s.pending := by
  simp only [State.faultClearPulseEnd]
  (repeat' split) <;> simp

@[simp] theorem State.endFieldTransmission_keeps (s : State) (g : Segment) :
    (s.endFieldTransmission g).hold = s.hold
    ∧ (s.endFieldTransmission g).supervisor = s.supervisor
    ∧ (s.endFieldTransmission g).traffic = s.traffic ∧ (s.endFieldTransmission g).ptw = s.ptw
    ∧ (s.endFieldTransmission g).fcu = s.fcu ∧ (s.endFieldTransmission g).hau = s.hau
    ∧ (s.endFieldTransmission g).vdu = s.vdu ∧ (s.endFieldTransmission g).cue = s.cue
    ∧ (s.endFieldTransmission g).prf = s.prf ∧ (s.endFieldTransmission g).tcu = s.tcu
    ∧ (s.endFieldTransmission g).ntu = s.ntu ∧ (s.endFieldTransmission g).mgr = s.mgr
    ∧ (s.endFieldTransmission g).races = s.races ∧ (s.endFieldTransmission g).pending = s.pending := by
  simp only [State.endFieldTransmission]
  (repeat' split) <;> simp

@[simp] theorem State.startTimers_keeps (s : State) :
    (s.startTimers).now = s.now ∧ (s.startTimers).hold = s.hold
    ∧ (s.startTimers).traffic = s.traffic ∧ (s.startTimers).ptw = s.ptw
    ∧ (s.startTimers).vdu = s.vdu ∧ (s.startTimers).prf = s.prf ∧ (s.startTimers).tcu = s.tcu
    ∧ (s.startTimers).ntu = s.ntu ∧ (s.startTimers).mgr = s.mgr ∧ (s.startTimers).races = s.races
    ∧ (s.startTimers).pending = s.pending := by
  simp only [State.startTimers]
  simp

@[simp] theorem State.warmReset_keeps (s : State) :
    (s.warmReset).now = s.now ∧ (s.warmReset).hold = s.hold ∧ (s.warmReset).prf = s.prf
    ∧ (s.warmReset).races = s.races ∧ (s.warmReset).pending = s.pending := by
  simp only [State.warmReset]
  simp

@[simp] theorem State.supervisorReset_keeps (s : State) :
    (s.supervisorReset).now = s.now ∧ (s.supervisorReset).hold = s.hold
    ∧ (s.supervisorReset).prf = s.prf ∧ (s.supervisorReset).races = s.races
    ∧ (s.supervisorReset).pending = s.pending := by
  simp only [State.supervisorReset]
  simp

@[simp] theorem State.lineReset_keeps (s : State) :
    (s.lineReset).now = s.now ∧ (s.lineReset).prf = s.prf ∧ (s.lineReset).races = s.races
    ∧ (s.lineReset).pending = s.pending := by
  simp only [State.lineReset]
  simp

@[simp] theorem State.beginWork_keeps (s : State) (x : BitVec 7) (k : Nat) :
    (s.beginWork x k).now = s.now ∧ (s.beginWork x k).traffic = s.traffic
    ∧ (s.beginWork x k).ptw = s.ptw ∧ (s.beginWork x k).vdu = s.vdu
    ∧ (s.beginWork x k).prf = s.prf ∧ (s.beginWork x k).tcu = s.tcu
    ∧ (s.beginWork x k).races = s.races ∧ (s.beginWork x k).pending = s.pending := by
  simp only [State.beginWork]
  simp

@[simp] theorem State.workStart_keeps (s : State) (x : BitVec 7) :
    (s.workStart x).now = s.now ∧ (s.workStart x).traffic = s.traffic
    ∧ (s.workStart x).ptw = s.ptw ∧ (s.workStart x).prf = s.prf ∧ (s.workStart x).races = s.races
    ∧ (s.workStart x).pending = s.pending := by
  simp only [State.workStart]
  (repeat' split) <;> simp

end Sys2Proof.Machine
end

