-- ==== Sys2Proof/Laws/KeepsRequests.lean ====
section
/-! SUPPORT. What each management request leaves alone, and what the reception and the end of a transmission
leave alone with it. -/

namespace Sys2Proof.Machine

/-- What a request without operands does to a block is what its action does, or nothing. -/
theorem State.bare_state {β : Type} (g : State → β) (s : State) (o : List Byte) (a : Answer)
    (h : g a.state = g s) : g (s.bare o a).state = g s := by
  unfold State.bare State.refuse
  split
  · exact h
  · rfl

@[simp] theorem State.writePoint_keeps (s : State) (o : List Byte) :
    ((s.writePoint o).state).now = s.now ∧ ((s.writePoint o).state).hold = s.hold
    ∧ ((s.writePoint o).state).plant = s.plant ∧ ((s.writePoint o).state).bowl = s.bowl
    ∧ ((s.writePoint o).state).supervisor = s.supervisor
    ∧ ((s.writePoint o).state).traffic = s.traffic ∧ ((s.writePoint o).state).fcu = s.fcu
    ∧ ((s.writePoint o).state).hau = s.hau ∧ ((s.writePoint o).state).vdu = s.vdu
    ∧ ((s.writePoint o).state).cue = s.cue ∧ ((s.writePoint o).state).prf = s.prf
    ∧ ((s.writePoint o).state).mgr = s.mgr ∧ ((s.writePoint o).state).races = s.races
    ∧ ((s.writePoint o).state).pending = s.pending := by
  simp only [State.writePoint, State.indexed, State.checked, State.allowed, State.refuse, State.doneAs]
  (repeat' split) <;> simp

@[simp] theorem State.writePoll_keeps (s : State) (o : List Byte) :
    ((s.writePoll o).state).now = s.now ∧ ((s.writePoll o).state).hold = s.hold
    ∧ ((s.writePoll o).state).supervisor = s.supervisor
    ∧ ((s.writePoll o).state).traffic = s.traffic ∧ ((s.writePoll o).state).ptw = s.ptw
    ∧ ((s.writePoll o).state).fcu = s.fcu ∧ ((s.writePoll o).state).hau = s.hau
    ∧ ((s.writePoll o).state).vdu = s.vdu ∧ ((s.writePoll o).state).cue = s.cue
    ∧ ((s.writePoll o).state).prf = s.prf ∧ ((s.writePoll o).state).tcu = s.tcu
    ∧ ((s.writePoll o).state).ntu = s.ntu ∧ ((s.writePoll o).state).mgr = s.mgr
    ∧ ((s.writePoll o).state).races = s.races ∧ ((s.writePoll o).state).pending = s.pending := by
  simp only [State.writePoll, State.checked, State.allowed, State.refuse, State.doneAs]
  (repeat' split) <;> simp

@[simp] theorem State.writeFieldPort_keeps (s : State) (o : List Byte) :
    ((s.writeFieldPort o).state).now = s.now ∧ ((s.writeFieldPort o).state).hold = s.hold
    ∧ ((s.writeFieldPort o).state).supervisor = s.supervisor
    ∧ ((s.writeFieldPort o).state).traffic = s.traffic ∧ ((s.writeFieldPort o).state).ptw = s.ptw
    ∧ ((s.writeFieldPort o).state).fcu = s.fcu ∧ ((s.writeFieldPort o).state).hau = s.hau
    ∧ ((s.writeFieldPort o).state).vdu = s.vdu ∧ ((s.writeFieldPort o).state).cue = s.cue
    ∧ ((s.writeFieldPort o).state).prf = s.prf ∧ ((s.writeFieldPort o).state).tcu = s.tcu
    ∧ ((s.writeFieldPort o).state).ntu = s.ntu ∧ ((s.writeFieldPort o).state).mgr = s.mgr
    ∧ ((s.writeFieldPort o).state).races = s.races
    ∧ ((s.writeFieldPort o).state).pending = s.pending := by
  simp only [State.writeFieldPort, State.indexed, State.checked, State.refuse, State.doneAs]
  (repeat' split) <;> simp

@[simp] theorem State.writeKnotEntry_keeps (s : State) (o : List Byte) :
    ((s.writeKnotEntry o).state).now = s.now ∧ ((s.writeKnotEntry o).state).hold = s.hold
    ∧ ((s.writeKnotEntry o).state).plant = s.plant ∧ ((s.writeKnotEntry o).state).bowl = s.bowl
    ∧ ((s.writeKnotEntry o).state).supervisor = s.supervisor
    ∧ ((s.writeKnotEntry o).state).traffic = s.traffic ∧ ((s.writeKnotEntry o).state).ptw = s.ptw
    ∧ ((s.writeKnotEntry o).state).hau = s.hau ∧ ((s.writeKnotEntry o).state).vdu = s.vdu
    ∧ ((s.writeKnotEntry o).state).cue = s.cue ∧ ((s.writeKnotEntry o).state).prf = s.prf
    ∧ ((s.writeKnotEntry o).state).mgr = s.mgr ∧ ((s.writeKnotEntry o).state).races = s.races
    ∧ ((s.writeKnotEntry o).state).pending = s.pending := by
  simp only [State.writeKnotEntry, State.indexed, State.refuse, State.doneAs]
  (repeat' split) <;> simp

@[simp] theorem State.writeFog_keeps (s : State) (o : List Byte) :
    ((s.writeFog o).state).now = s.now ∧ ((s.writeFog o).state).hold = s.hold
    ∧ ((s.writeFog o).state).plant = s.plant ∧ ((s.writeFog o).state).bowl = s.bowl
    ∧ ((s.writeFog o).state).supervisor = s.supervisor
    ∧ ((s.writeFog o).state).traffic = s.traffic ∧ ((s.writeFog o).state).ptw = s.ptw
    ∧ ((s.writeFog o).state).hau = s.hau ∧ ((s.writeFog o).state).vdu = s.vdu
    ∧ ((s.writeFog o).state).cue = s.cue ∧ ((s.writeFog o).state).prf = s.prf
    ∧ ((s.writeFog o).state).tcu = s.tcu ∧ ((s.writeFog o).state).ntu = s.ntu
    ∧ ((s.writeFog o).state).mgr = s.mgr ∧ ((s.writeFog o).state).races = s.races
    ∧ ((s.writeFog o).state).pending = s.pending := by
  simp only [State.writeFog, State.indexed, State.checked, State.refuse, State.doneAs]
  (repeat' split) <;> simp

@[simp] theorem State.storeHeatPart_keeps (s : State) (p : Nat) (l : List Nat) :
    ((s.storeHeatPart p l).state).now = s.now ∧ ((s.storeHeatPart p l).state).hold = s.hold
    ∧ ((s.storeHeatPart p l).state).plant = s.plant ∧ ((s.storeHeatPart p l).state).bowl = s.bowl
    ∧ ((s.storeHeatPart p l).state).supervisor = s.supervisor
    ∧ ((s.storeHeatPart p l).state).traffic = s.traffic
    ∧ ((s.storeHeatPart p l).state).vdu = s.vdu ∧ ((s.storeHeatPart p l).state).cue = s.cue
    ∧ ((s.storeHeatPart p l).state).prf = s.prf ∧ ((s.storeHeatPart p l).state).tcu = s.tcu
    ∧ ((s.storeHeatPart p l).state).mgr = s.mgr ∧ ((s.storeHeatPart p l).state).races = s.races
    ∧ ((s.storeHeatPart p l).state).pending = s.pending := by
  simp only [State.storeHeatPart, State.checked, State.refuse, State.doneAs]
  (repeat' split) <;> simp

@[simp] theorem State.writeHeatPart_keeps (s : State) (o : List Byte) :
    ((s.writeHeatPart o).state).now = s.now ∧ ((s.writeHeatPart o).state).hold = s.hold
    ∧ ((s.writeHeatPart o).state).plant = s.plant ∧ ((s.writeHeatPart o).state).bowl = s.bowl
    ∧ ((s.writeHeatPart o).state).supervisor = s.supervisor
    ∧ ((s.writeHeatPart o).state).traffic = s.traffic ∧ ((s.writeHeatPart o).state).vdu = s.vdu
    ∧ ((s.writeHeatPart o).state).cue = s.cue ∧ ((s.writeHeatPart o).state).prf = s.prf
    ∧ ((s.writeHeatPart o).state).tcu = s.tcu ∧ ((s.writeHeatPart o).state).mgr = s.mgr
    ∧ ((s.writeHeatPart o).state).races = s.races
    ∧ ((s.writeHeatPart o).state).pending = s.pending := by
  simp only [State.writeHeatPart, State.refuse]
  (repeat' split) <;> simp

@[simp] theorem State.writeLoad_keeps (s : State) (o : List Byte) :
    ((s.writeLoad o).state).now = s.now ∧ ((s.writeLoad o).state).hold = s.hold
    ∧ ((s.writeLoad o).state).plant = s.plant ∧ ((s.writeLoad o).state).bowl = s.bowl
    ∧ ((s.writeLoad o).state).supervisor = s.supervisor
    ∧ ((s.writeLoad o).state).traffic = s.traffic ∧ ((s.writeLoad o).state).ptw = s.ptw
    ∧ ((s.writeLoad o).state).fcu = s.fcu ∧ ((s.writeLoad o).state).vdu = s.vdu
    ∧ ((s.writeLoad o).state).cue = s.cue ∧ ((s.writeLoad o).state).prf = s.prf
    ∧ ((s.writeLoad o).state).tcu = s.tcu ∧ ((s.writeLoad o).state).ntu = s.ntu
    ∧ ((s.writeLoad o).state).mgr = s.mgr ∧ ((s.writeLoad o).state).races = s.races
    ∧ ((s.writeLoad o).state).pending = s.pending := by
  simp only [State.writeLoad, State.indexed, State.refuse, State.doneAs]
  (repeat' split) <;> simp

@[simp] theorem State.writeValve_keeps (s : State) (o : List Byte) :
    ((s.writeValve o).state).now = s.now ∧ ((s.writeValve o).state).hold = s.hold
    ∧ ((s.writeValve o).state).plant = s.plant ∧ ((s.writeValve o).state).bowl = s.bowl
    ∧ ((s.writeValve o).state).supervisor = s.supervisor
    ∧ ((s.writeValve o).state).traffic = s.traffic ∧ ((s.writeValve o).state).ptw = s.ptw
    ∧ ((s.writeValve o).state).fcu = s.fcu ∧ ((s.writeValve o).state).hau = s.hau
    ∧ ((s.writeValve o).state).cue = s.cue ∧ ((s.writeValve o).state).prf = s.prf
    ∧ ((s.writeValve o).state).mgr = s.mgr ∧ ((s.writeValve o).state).races = s.races
    ∧ ((s.writeValve o).state).pending = s.pending := by
  simp only [State.writeValve, State.indexed, State.checked, State.allowed, State.refuse, State.doneAs]
  (repeat' split) <;> simp

@[simp] theorem State.writeProfile_keeps (s : State) (o : List Byte) :
    ((s.writeProfile o).state).now = s.now ∧ ((s.writeProfile o).state).hold = s.hold
    ∧ ((s.writeProfile o).state).plant = s.plant ∧ ((s.writeProfile o).state).bowl = s.bowl
    ∧ ((s.writeProfile o).state).supervisor = s.supervisor
    ∧ ((s.writeProfile o).state).traffic = s.traffic ∧ ((s.writeProfile o).state).ptw = s.ptw
    ∧ ((s.writeProfile o).state).fcu = s.fcu ∧ ((s.writeProfile o).state).hau = s.hau
    ∧ ((s.writeProfile o).state).vdu = s.vdu ∧ ((s.writeProfile o).state).cue = s.cue
    ∧ ((s.writeProfile o).state).tcu = s.tcu ∧ ((s.writeProfile o).state).mgr = s.mgr
    ∧ ((s.writeProfile o).state).races = s.races ∧ ((s.writeProfile o).state).pending = s.pending := by
  simp only [State.writeProfile, State.indexed, State.checked, State.refuse, State.doneAs]
  (repeat' split) <;> simp

@[simp] theorem State.writeCue_keeps (s : State) (o : List Byte) :
    ((s.writeCue o).state).now = s.now ∧ ((s.writeCue o).state).hold = s.hold
    ∧ ((s.writeCue o).state).plant = s.plant ∧ ((s.writeCue o).state).bowl = s.bowl
    ∧ ((s.writeCue o).state).supervisor = s.supervisor
    ∧ ((s.writeCue o).state).traffic = s.traffic ∧ ((s.writeCue o).state).ptw = s.ptw
    ∧ ((s.writeCue o).state).fcu = s.fcu ∧ ((s.writeCue o).state).hau = s.hau
    ∧ ((s.writeCue o).state).vdu = s.vdu ∧ ((s.writeCue o).state).prf = s.prf
    ∧ ((s.writeCue o).state).tcu = s.tcu ∧ ((s.writeCue o).state).ntu = s.ntu
    ∧ ((s.writeCue o).state).mgr = s.mgr ∧ ((s.writeCue o).state).races = s.races
    ∧ ((s.writeCue o).state).pending = s.pending := by
  simp only [State.writeCue, State.indexed, State.checked, State.allowed, State.refuse, State.doneAs]
  (repeat' split) <;> simp

@[simp] theorem State.writeSpan_keeps (s : State) (o : List Byte) :
    ((s.writeSpan o).state).now = s.now ∧ ((s.writeSpan o).state).hold = s.hold
    ∧ ((s.writeSpan o).state).plant = s.plant ∧ ((s.writeSpan o).state).bowl = s.bowl
    ∧ ((s.writeSpan o).state).supervisor = s.supervisor
    ∧ ((s.writeSpan o).state).traffic = s.traffic ∧ ((s.writeSpan o).state).ptw = s.ptw
    ∧ ((s.writeSpan o).state).fcu = s.fcu ∧ ((s.writeSpan o).state).hau = s.hau
    ∧ ((s.writeSpan o).state).vdu = s.vdu ∧ ((s.writeSpan o).state).prf = s.prf
    ∧ ((s.writeSpan o).state).tcu = s.tcu ∧ ((s.writeSpan o).state).ntu = s.ntu
    ∧ ((s.writeSpan o).state).mgr = s.mgr ∧ ((s.writeSpan o).state).races = s.races
    ∧ ((s.writeSpan o).state).pending = s.pending := by
  simp only [State.writeSpan, State.indexed, State.checked, State.refuse, State.doneAs]
  (repeat' split) <;> simp

@[simp] theorem State.writeScene_keeps (s : State) (o : List Byte) :
    ((s.writeScene o).state).now = s.now ∧ ((s.writeScene o).state).hold = s.hold
    ∧ ((s.writeScene o).state).plant = s.plant ∧ ((s.writeScene o).state).bowl = s.bowl
    ∧ ((s.writeScene o).state).supervisor = s.supervisor
    ∧ ((s.writeScene o).state).traffic = s.traffic ∧ ((s.writeScene o).state).ptw = s.ptw
    ∧ ((s.writeScene o).state).fcu = s.fcu ∧ ((s.writeScene o).state).hau = s.hau
    ∧ ((s.writeScene o).state).vdu = s.vdu ∧ ((s.writeScene o).state).prf = s.prf
    ∧ ((s.writeScene o).state).tcu = s.tcu ∧ ((s.writeScene o).state).ntu = s.ntu
    ∧ ((s.writeScene o).state).mgr = s.mgr ∧ ((s.writeScene o).state).races = s.races
    ∧ ((s.writeScene o).state).pending = s.pending := by
  simp only [State.writeScene, State.indexed, State.refuse, State.doneAs]
  (repeat' split) <;> simp

@[simp] theorem State.writeDescriptor_keeps (s : State) (o : List Byte) :
    ((s.writeDescriptor o).state).now = s.now ∧ ((s.writeDescriptor o).state).hold = s.hold
    ∧ ((s.writeDescriptor o).state).plant = s.plant ∧ ((s.writeDescriptor o).state).bowl = s.bowl
    ∧ ((s.writeDescriptor o).state).supervisor = s.supervisor
    ∧ ((s.writeDescriptor o).state).traffic = s.traffic
    ∧ ((s.writeDescriptor o).state).ptw = s.ptw ∧ ((s.writeDescriptor o).state).fcu = s.fcu
    ∧ ((s.writeDescriptor o).state).hau = s.hau ∧ ((s.writeDescriptor o).state).vdu = s.vdu
    ∧ ((s.writeDescriptor o).state).cue = s.cue ∧ ((s.writeDescriptor o).state).prf = s.prf
    ∧ ((s.writeDescriptor o).state).ntu = s.ntu ∧ ((s.writeDescriptor o).state).mgr = s.mgr
    ∧ ((s.writeDescriptor o).state).races = s.races
    ∧ ((s.writeDescriptor o).state).pending = s.pending := by
  simp only [State.writeDescriptor, State.indexed, State.checked, State.allowed, State.refuse, State.doneAs]
  (repeat' split) <;> simp

@[simp] theorem State.writeLevel_keeps (s : State) (o : List Byte) :
    ((s.writeLevel o).state).now = s.now ∧ ((s.writeLevel o).state).hold = s.hold
    ∧ ((s.writeLevel o).state).plant = s.plant ∧ ((s.writeLevel o).state).bowl = s.bowl
    ∧ ((s.writeLevel o).state).supervisor = s.supervisor
    ∧ ((s.writeLevel o).state).traffic = s.traffic ∧ ((s.writeLevel o).state).ptw = s.ptw
    ∧ ((s.writeLevel o).state).fcu = s.fcu ∧ ((s.writeLevel o).state).hau = s.hau
    ∧ ((s.writeLevel o).state).vdu = s.vdu ∧ ((s.writeLevel o).state).cue = s.cue
    ∧ ((s.writeLevel o).state).prf = s.prf ∧ ((s.writeLevel o).state).tcu = s.tcu
    ∧ ((s.writeLevel o).state).mgr = s.mgr ∧ ((s.writeLevel o).state).races = s.races
    ∧ ((s.writeLevel o).state).pending = s.pending := by
  simp only [State.writeLevel, State.indexed, State.checked, State.refuse, State.doneAs]
  (repeat' split) <;> simp

@[simp] theorem State.pollIndexed_keeps (s : State) (o : List Byte) (f : PollEntry → List Byte) :
    ((s.pollIndexed o f).state).now = s.now ∧ ((s.pollIndexed o f).state).hold = s.hold
    ∧ ((s.pollIndexed o f).state).plant = s.plant ∧ ((s.pollIndexed o f).state).bowl = s.bowl
    ∧ ((s.pollIndexed o f).state).supervisor = s.supervisor
    ∧ ((s.pollIndexed o f).state).traffic = s.traffic ∧ ((s.pollIndexed o f).state).ptw = s.ptw
    ∧ ((s.pollIndexed o f).state).fcu = s.fcu ∧ ((s.pollIndexed o f).state).hau = s.hau
    ∧ ((s.pollIndexed o f).state).vdu = s.vdu ∧ ((s.pollIndexed o f).state).cue = s.cue
    ∧ ((s.pollIndexed o f).state).prf = s.prf ∧ ((s.pollIndexed o f).state).tcu = s.tcu
    ∧ ((s.pollIndexed o f).state).ntu = s.ntu ∧ ((s.pollIndexed o f).state).mgr = s.mgr
    ∧ ((s.pollIndexed o f).state).races = s.races
    ∧ ((s.pollIndexed o f).state).pending = s.pending := by
  simp only [State.pollIndexed, State.refuse, State.answerData]
  (repeat' split) <;> simp

@[simp] theorem State.readIndexed_keeps (s : State) (n w : Nat) (o : List Byte) (f : Fin n → List Byte) :
    ((s.readIndexed n w o f).state).now = s.now ∧ ((s.readIndexed n w o f).state).hold = s.hold
    ∧ ((s.readIndexed n w o f).state).plant = s.plant
    ∧ ((s.readIndexed n w o f).state).bowl = s.bowl
    ∧ ((s.readIndexed n w o f).state).supervisor = s.supervisor
    ∧ ((s.readIndexed n w o f).state).traffic = s.traffic
    ∧ ((s.readIndexed n w o f).state).ptw = s.ptw ∧ ((s.readIndexed n w o f).state).fcu = s.fcu
    ∧ ((s.readIndexed n w o f).state).hau = s.hau ∧ ((s.readIndexed n w o f).state).vdu = s.vdu
    ∧ ((s.readIndexed n w o f).state).cue = s.cue ∧ ((s.readIndexed n w o f).state).prf = s.prf
    ∧ ((s.readIndexed n w o f).state).tcu = s.tcu ∧ ((s.readIndexed n w o f).state).ntu = s.ntu
    ∧ ((s.readIndexed n w o f).state).mgr = s.mgr
    ∧ ((s.readIndexed n w o f).state).races = s.races
    ∧ ((s.readIndexed n w o f).state).pending = s.pending := by
  simp only [State.readIndexed, State.indexed, State.refuse, State.answerData]
  (repeat' split) <;> simp

@[simp] theorem State.readTable_keeps (s : State) (n : Nat) (o : List Byte) :
    ((s.readTable n o).state).now = s.now ∧ ((s.readTable n o).state).hold = s.hold
    ∧ ((s.readTable n o).state).plant = s.plant ∧ ((s.readTable n o).state).bowl = s.bowl
    ∧ ((s.readTable n o).state).supervisor = s.supervisor
    ∧ ((s.readTable n o).state).traffic = s.traffic ∧ ((s.readTable n o).state).ptw = s.ptw
    ∧ ((s.readTable n o).state).fcu = s.fcu ∧ ((s.readTable n o).state).hau = s.hau
    ∧ ((s.readTable n o).state).vdu = s.vdu ∧ ((s.readTable n o).state).cue = s.cue
    ∧ ((s.readTable n o).state).prf = s.prf ∧ ((s.readTable n o).state).tcu = s.tcu
    ∧ ((s.readTable n o).state).ntu = s.ntu ∧ ((s.readTable n o).state).mgr = s.mgr
    ∧ ((s.readTable n o).state).races = s.races ∧ ((s.readTable n o).state).pending = s.pending := by
  simp only [State.readTable, State.refuse]
  (repeat' split) <;> simp

@[simp] theorem State.readEntry_keeps (s : State) (o : List Byte) :
    ((s.readEntry o).state).now = s.now ∧ ((s.readEntry o).state).hold = s.hold
    ∧ ((s.readEntry o).state).plant = s.plant ∧ ((s.readEntry o).state).bowl = s.bowl
    ∧ ((s.readEntry o).state).supervisor = s.supervisor
    ∧ ((s.readEntry o).state).traffic = s.traffic ∧ ((s.readEntry o).state).ptw = s.ptw
    ∧ ((s.readEntry o).state).fcu = s.fcu ∧ ((s.readEntry o).state).hau = s.hau
    ∧ ((s.readEntry o).state).vdu = s.vdu ∧ ((s.readEntry o).state).cue = s.cue
    ∧ ((s.readEntry o).state).prf = s.prf ∧ ((s.readEntry o).state).tcu = s.tcu
    ∧ ((s.readEntry o).state).ntu = s.ntu ∧ ((s.readEntry o).state).mgr = s.mgr
    ∧ ((s.readEntry o).state).races = s.races ∧ ((s.readEntry o).state).pending = s.pending := by
  simp only [State.readEntry, State.refuse]
  (repeat' split) <;> simp

@[simp] theorem State.readUnit_keeps (s : State) (n : Nat) (o : List Byte) :
    ((s.readUnit n o).state).now = s.now ∧ ((s.readUnit n o).state).hold = s.hold
    ∧ ((s.readUnit n o).state).plant = s.plant ∧ ((s.readUnit n o).state).bowl = s.bowl
    ∧ ((s.readUnit n o).state).supervisor = s.supervisor
    ∧ ((s.readUnit n o).state).traffic = s.traffic ∧ ((s.readUnit n o).state).ptw = s.ptw
    ∧ ((s.readUnit n o).state).fcu = s.fcu ∧ ((s.readUnit n o).state).hau = s.hau
    ∧ ((s.readUnit n o).state).vdu = s.vdu ∧ ((s.readUnit n o).state).cue = s.cue
    ∧ ((s.readUnit n o).state).prf = s.prf ∧ ((s.readUnit n o).state).tcu = s.tcu
    ∧ ((s.readUnit n o).state).ntu = s.ntu ∧ ((s.readUnit n o).state).mgr = s.mgr
    ∧ ((s.readUnit n o).state).races = s.races ∧ ((s.readUnit n o).state).pending = s.pending := by
  simp only [State.readUnit, State.refuse]
  (repeat' split) <;> simp

@[simp] theorem State.readStatus_keeps (s : State) (o : List Byte) :
    ((s.readStatus o).state).now = s.now ∧ ((s.readStatus o).state).hold = s.hold
    ∧ ((s.readStatus o).state).plant = s.plant ∧ ((s.readStatus o).state).bowl = s.bowl
    ∧ ((s.readStatus o).state).supervisor = s.supervisor
    ∧ ((s.readStatus o).state).traffic = s.traffic ∧ ((s.readStatus o).state).ptw = s.ptw
    ∧ ((s.readStatus o).state).fcu = s.fcu ∧ ((s.readStatus o).state).hau = s.hau
    ∧ ((s.readStatus o).state).vdu = s.vdu ∧ ((s.readStatus o).state).cue = s.cue
    ∧ ((s.readStatus o).state).prf = s.prf ∧ ((s.readStatus o).state).tcu = s.tcu
    ∧ ((s.readStatus o).state).ntu = s.ntu ∧ ((s.readStatus o).state).mgr = s.mgr
    ∧ ((s.readStatus o).state).races = s.races ∧ ((s.readStatus o).state).pending = s.pending := by
  simp only [State.readStatus, State.refuse]
  (repeat' split) <;> simp

@[simp] theorem State.validateTable_keeps (s : State) :
    ((s.validateTable).state).now = s.now ∧ ((s.validateTable).state).hold = s.hold
    ∧ ((s.validateTable).state).plant = s.plant ∧ ((s.validateTable).state).bowl = s.bowl
    ∧ ((s.validateTable).state).supervisor = s.supervisor
    ∧ ((s.validateTable).state).traffic = s.traffic ∧ ((s.validateTable).state).ptw = s.ptw
    ∧ ((s.validateTable).state).hau = s.hau ∧ ((s.validateTable).state).vdu = s.vdu
    ∧ ((s.validateTable).state).cue = s.cue ∧ ((s.validateTable).state).prf = s.prf
    ∧ ((s.validateTable).state).tcu = s.tcu ∧ ((s.validateTable).state).ntu = s.ntu
    ∧ ((s.validateTable).state).mgr = s.mgr ∧ ((s.validateTable).state).races = s.races
    ∧ ((s.validateTable).state).pending = s.pending := by
  simp only [State.validateTable, State.doneAs]
  (repeat' split) <;> simp

@[simp] theorem State.requestProfile_keeps (s : State) (o : List Byte) :
    ((s.requestProfile o).state).now = s.now ∧ ((s.requestProfile o).state).hold = s.hold
    ∧ ((s.requestProfile o).state).plant = s.plant ∧ ((s.requestProfile o).state).bowl = s.bowl
    ∧ ((s.requestProfile o).state).supervisor = s.supervisor
    ∧ ((s.requestProfile o).state).traffic = s.traffic ∧ ((s.requestProfile o).state).ptw = s.ptw
    ∧ ((s.requestProfile o).state).fcu = s.fcu ∧ ((s.requestProfile o).state).hau = s.hau
    ∧ ((s.requestProfile o).state).vdu = s.vdu ∧ ((s.requestProfile o).state).tcu = s.tcu
    ∧ ((s.requestProfile o).state).mgr = s.mgr ∧ ((s.requestProfile o).state).races = s.races
    ∧ ((s.requestProfile o).state).pending = s.pending := by
  simp only [State.requestProfile, State.indexed, State.allowed, State.refuse, State.doneAs]
  (repeat' split) <;> simp

@[simp] theorem State.requestGo_keeps (s : State) (o : List Byte) :
    ((s.requestGo o).state).now = s.now ∧ ((s.requestGo o).state).hold = s.hold
    ∧ ((s.requestGo o).state).plant = s.plant ∧ ((s.requestGo o).state).bowl = s.bowl
    ∧ ((s.requestGo o).state).supervisor = s.supervisor
    ∧ ((s.requestGo o).state).traffic = s.traffic ∧ ((s.requestGo o).state).ptw = s.ptw
    ∧ ((s.requestGo o).state).fcu = s.fcu ∧ ((s.requestGo o).state).hau = s.hau
    ∧ ((s.requestGo o).state).vdu = s.vdu ∧ ((s.requestGo o).state).prf = s.prf
    ∧ ((s.requestGo o).state).tcu = s.tcu ∧ ((s.requestGo o).state).mgr = s.mgr
    ∧ ((s.requestGo o).state).races = s.races ∧ ((s.requestGo o).state).pending = s.pending := by
  simp only [State.requestGo, State.indexed, State.refuse]
  (repeat' split) <;> simp

@[simp] theorem State.requestStop_keeps (s : State) (o : List Byte) :
    ((s.requestStop o).state).now = s.now ∧ ((s.requestStop o).state).hold = s.hold
    ∧ ((s.requestStop o).state).plant = s.plant ∧ ((s.requestStop o).state).bowl = s.bowl
    ∧ ((s.requestStop o).state).supervisor = s.supervisor
    ∧ ((s.requestStop o).state).traffic = s.traffic ∧ ((s.requestStop o).state).ptw = s.ptw
    ∧ ((s.requestStop o).state).fcu = s.fcu ∧ ((s.requestStop o).state).hau = s.hau
    ∧ ((s.requestStop o).state).vdu = s.vdu ∧ ((s.requestStop o).state).prf = s.prf
    ∧ ((s.requestStop o).state).tcu = s.tcu ∧ ((s.requestStop o).state).ntu = s.ntu
    ∧ ((s.requestStop o).state).mgr = s.mgr ∧ ((s.requestStop o).state).races = s.races
    ∧ ((s.requestStop o).state).pending = s.pending := by
  simp only [State.requestStop, State.indexed, State.refuse, State.doneAs]
  (repeat' split) <;> simp

@[simp] theorem State.homeChannel_keeps (s : State) (c : Fin 4) :
    ((s.homeChannel c).state).now = s.now ∧ ((s.homeChannel c).state).hold = s.hold
    ∧ ((s.homeChannel c).state).plant = s.plant ∧ ((s.homeChannel c).state).bowl = s.bowl
    ∧ ((s.homeChannel c).state).supervisor = s.supervisor
    ∧ ((s.homeChannel c).state).traffic = s.traffic ∧ ((s.homeChannel c).state).ptw = s.ptw
    ∧ ((s.homeChannel c).state).fcu = s.fcu ∧ ((s.homeChannel c).state).hau = s.hau
    ∧ ((s.homeChannel c).state).cue = s.cue ∧ ((s.homeChannel c).state).prf = s.prf
    ∧ ((s.homeChannel c).state).mgr = s.mgr ∧ ((s.homeChannel c).state).races = s.races
    ∧ ((s.homeChannel c).state).pending = s.pending := by
  simp only [State.homeChannel, State.refuse, State.doneAs]
  (repeat' split) <;> simp

@[simp] theorem State.requestHome_keeps (s : State) (o : List Byte) :
    ((s.requestHome o).state).now = s.now ∧ ((s.requestHome o).state).hold = s.hold
    ∧ ((s.requestHome o).state).plant = s.plant ∧ ((s.requestHome o).state).bowl = s.bowl
    ∧ ((s.requestHome o).state).supervisor = s.supervisor
    ∧ ((s.requestHome o).state).traffic = s.traffic ∧ ((s.requestHome o).state).ptw = s.ptw
    ∧ ((s.requestHome o).state).fcu = s.fcu ∧ ((s.requestHome o).state).hau = s.hau
    ∧ ((s.requestHome o).state).cue = s.cue ∧ ((s.requestHome o).state).prf = s.prf
    ∧ ((s.requestHome o).state).mgr = s.mgr ∧ ((s.requestHome o).state).races = s.races
    ∧ ((s.requestHome o).state).pending = s.pending := by
  simp only [State.requestHome, State.indexed, State.refuse]
  (repeat' split) <;> simp

@[simp] theorem State.enableChannel_keeps (s : State) (i : Fin 8) :
    ((s.enableChannel i).state).now = s.now ∧ ((s.enableChannel i).state).hold = s.hold
    ∧ ((s.enableChannel i).state).plant = s.plant ∧ ((s.enableChannel i).state).bowl = s.bowl
    ∧ ((s.enableChannel i).state).supervisor = s.supervisor
    ∧ ((s.enableChannel i).state).traffic = s.traffic ∧ ((s.enableChannel i).state).ptw = s.ptw
    ∧ ((s.enableChannel i).state).fcu = s.fcu ∧ ((s.enableChannel i).state).hau = s.hau
    ∧ ((s.enableChannel i).state).vdu = s.vdu ∧ ((s.enableChannel i).state).cue = s.cue
    ∧ ((s.enableChannel i).state).prf = s.prf ∧ ((s.enableChannel i).state).ntu = s.ntu
    ∧ ((s.enableChannel i).state).mgr = s.mgr ∧ ((s.enableChannel i).state).races = s.races
    ∧ ((s.enableChannel i).state).pending = s.pending := by
  simp only [State.enableChannel, State.allowed, State.refuse, State.doneAs]
  (repeat' split) <;> simp

@[simp] theorem State.requestEnable_keeps (s : State) (o : List Byte) :
    ((s.requestEnable o).state).now = s.now ∧ ((s.requestEnable o).state).hold = s.hold
    ∧ ((s.requestEnable o).state).plant = s.plant ∧ ((s.requestEnable o).state).bowl = s.bowl
    ∧ ((s.requestEnable o).state).supervisor = s.supervisor
    ∧ ((s.requestEnable o).state).traffic = s.traffic ∧ ((s.requestEnable o).state).ptw = s.ptw
    ∧ ((s.requestEnable o).state).fcu = s.fcu ∧ ((s.requestEnable o).state).hau = s.hau
    ∧ ((s.requestEnable o).state).vdu = s.vdu ∧ ((s.requestEnable o).state).cue = s.cue
    ∧ ((s.requestEnable o).state).prf = s.prf ∧ ((s.requestEnable o).state).ntu = s.ntu
    ∧ ((s.requestEnable o).state).mgr = s.mgr ∧ ((s.requestEnable o).state).races = s.races
    ∧ ((s.requestEnable o).state).pending = s.pending := by
  simp only [State.requestEnable, State.indexed, State.refuse]
  (repeat' split) <;> simp

@[simp] theorem State.requestDisable_keeps (s : State) (o : List Byte) :
    ((s.requestDisable o).state).now = s.now ∧ ((s.requestDisable o).state).hold = s.hold
    ∧ ((s.requestDisable o).state).plant = s.plant ∧ ((s.requestDisable o).state).bowl = s.bowl
    ∧ ((s.requestDisable o).state).supervisor = s.supervisor
    ∧ ((s.requestDisable o).state).traffic = s.traffic ∧ ((s.requestDisable o).state).ptw = s.ptw
    ∧ ((s.requestDisable o).state).fcu = s.fcu ∧ ((s.requestDisable o).state).hau = s.hau
    ∧ ((s.requestDisable o).state).vdu = s.vdu ∧ ((s.requestDisable o).state).cue = s.cue
    ∧ ((s.requestDisable o).state).prf = s.prf ∧ ((s.requestDisable o).state).mgr = s.mgr
    ∧ ((s.requestDisable o).state).races = s.races
    ∧ ((s.requestDisable o).state).pending = s.pending := by
  simp only [State.requestDisable, State.indexed, State.refuse, State.doneAs]
  (repeat' split) <;> simp

@[simp] theorem State.requestLimit_keeps (s : State) (o : List Byte) :
    ((s.requestLimit o).state).now = s.now ∧ ((s.requestLimit o).state).hold = s.hold
    ∧ ((s.requestLimit o).state).plant = s.plant ∧ ((s.requestLimit o).state).bowl = s.bowl
    ∧ ((s.requestLimit o).state).supervisor = s.supervisor
    ∧ ((s.requestLimit o).state).traffic = s.traffic ∧ ((s.requestLimit o).state).ptw = s.ptw
    ∧ ((s.requestLimit o).state).fcu = s.fcu ∧ ((s.requestLimit o).state).hau = s.hau
    ∧ ((s.requestLimit o).state).vdu = s.vdu ∧ ((s.requestLimit o).state).cue = s.cue
    ∧ ((s.requestLimit o).state).tcu = s.tcu ∧ ((s.requestLimit o).state).ntu = s.ntu
    ∧ ((s.requestLimit o).state).mgr = s.mgr ∧ ((s.requestLimit o).state).races = s.races
    ∧ ((s.requestLimit o).state).pending = s.pending := by
  simp only [State.requestLimit, State.checked, State.refuse, State.doneAs, State.valued]
  (repeat' split) <;> simp

@[simp] theorem State.requestThreshold_keeps (s : State) (o : List Byte) :
    ((s.requestThreshold o).state).now = s.now ∧ ((s.requestThreshold o).state).hold = s.hold
    ∧ ((s.requestThreshold o).state).plant = s.plant
    ∧ ((s.requestThreshold o).state).bowl = s.bowl
    ∧ ((s.requestThreshold o).state).supervisor = s.supervisor
    ∧ ((s.requestThreshold o).state).traffic = s.traffic
    ∧ ((s.requestThreshold o).state).ptw = s.ptw ∧ ((s.requestThreshold o).state).fcu = s.fcu
    ∧ ((s.requestThreshold o).state).hau = s.hau ∧ ((s.requestThreshold o).state).vdu = s.vdu
    ∧ ((s.requestThreshold o).state).cue = s.cue ∧ ((s.requestThreshold o).state).prf = s.prf
    ∧ ((s.requestThreshold o).state).tcu = s.tcu ∧ ((s.requestThreshold o).state).mgr = s.mgr
    ∧ ((s.requestThreshold o).state).races = s.races
    ∧ ((s.requestThreshold o).state).pending = s.pending := by
  simp only [State.requestThreshold, State.checked, State.refuse, State.doneAs, State.valued]
  (repeat' split) <;> simp

@[simp] theorem State.requestRate_keeps (s : State) (o : List Byte) :
    ((s.requestRate o).state).now = s.now ∧ ((s.requestRate o).state).hold = s.hold
    ∧ ((s.requestRate o).state).traffic = s.traffic ∧ ((s.requestRate o).state).ptw = s.ptw
    ∧ ((s.requestRate o).state).fcu = s.fcu ∧ ((s.requestRate o).state).hau = s.hau
    ∧ ((s.requestRate o).state).vdu = s.vdu ∧ ((s.requestRate o).state).cue = s.cue
    ∧ ((s.requestRate o).state).prf = s.prf ∧ ((s.requestRate o).state).tcu = s.tcu
    ∧ ((s.requestRate o).state).ntu = s.ntu ∧ ((s.requestRate o).state).mgr = s.mgr
    ∧ ((s.requestRate o).state).races = s.races ∧ ((s.requestRate o).state).pending = s.pending := by
  simp only [State.requestRate, State.indexed, State.checked, State.refuse, State.doneAs]
  (repeat' split) <;> simp

@[simp] theorem State.requestSearch_keeps (s : State) (o : List Byte) :
    ((s.requestSearch o).state).now = s.now ∧ ((s.requestSearch o).state).hold = s.hold
    ∧ ((s.requestSearch o).state).plant = s.plant ∧ ((s.requestSearch o).state).bowl = s.bowl
    ∧ ((s.requestSearch o).state).traffic = s.traffic ∧ ((s.requestSearch o).state).ptw = s.ptw
    ∧ ((s.requestSearch o).state).fcu = s.fcu ∧ ((s.requestSearch o).state).hau = s.hau
    ∧ ((s.requestSearch o).state).vdu = s.vdu ∧ ((s.requestSearch o).state).cue = s.cue
    ∧ ((s.requestSearch o).state).prf = s.prf ∧ ((s.requestSearch o).state).tcu = s.tcu
    ∧ ((s.requestSearch o).state).ntu = s.ntu ∧ ((s.requestSearch o).state).mgr = s.mgr
    ∧ ((s.requestSearch o).state).races = s.races
    ∧ ((s.requestSearch o).state).pending = s.pending := by
  simp only [State.requestSearch, State.checked, State.refuse, State.doneAs, State.valued]
  (repeat' split) <;> simp

@[simp] theorem State.requestClearCounts_keeps (s : State) (o : List Byte) :
    ((s.requestClearCounts o).state).now = s.now ∧ ((s.requestClearCounts o).state).hold = s.hold
    ∧ ((s.requestClearCounts o).state).traffic = s.traffic
    ∧ ((s.requestClearCounts o).state).ptw = s.ptw ∧ ((s.requestClearCounts o).state).fcu = s.fcu
    ∧ ((s.requestClearCounts o).state).hau = s.hau ∧ ((s.requestClearCounts o).state).vdu = s.vdu
    ∧ ((s.requestClearCounts o).state).cue = s.cue ∧ ((s.requestClearCounts o).state).prf = s.prf
    ∧ ((s.requestClearCounts o).state).tcu = s.tcu ∧ ((s.requestClearCounts o).state).ntu = s.ntu
    ∧ ((s.requestClearCounts o).state).mgr = s.mgr
    ∧ ((s.requestClearCounts o).state).races = s.races
    ∧ ((s.requestClearCounts o).state).pending = s.pending := by
  simp only [State.requestClearCounts, State.indexed, State.refuse, State.doneAs]
  (repeat' split) <;> simp

@[simp] theorem State.requestClearCause_keeps (s : State) (o : List Byte) :
    ((s.requestClearCause o).state).now = s.now ∧ ((s.requestClearCause o).state).hold = s.hold
    ∧ ((s.requestClearCause o).state).plant = s.plant
    ∧ ((s.requestClearCause o).state).bowl = s.bowl
    ∧ ((s.requestClearCause o).state).supervisor = s.supervisor
    ∧ ((s.requestClearCause o).state).traffic = s.traffic
    ∧ ((s.requestClearCause o).state).ptw = s.ptw ∧ ((s.requestClearCause o).state).fcu = s.fcu
    ∧ ((s.requestClearCause o).state).hau = s.hau ∧ ((s.requestClearCause o).state).vdu = s.vdu
    ∧ ((s.requestClearCause o).state).cue = s.cue ∧ ((s.requestClearCause o).state).prf = s.prf
    ∧ ((s.requestClearCause o).state).tcu = s.tcu ∧ ((s.requestClearCause o).state).ntu = s.ntu
    ∧ ((s.requestClearCause o).state).races = s.races
    ∧ ((s.requestClearCause o).state).pending = s.pending := by
  simp only [State.requestClearCause, State.refuse, State.doneAs, State.bare]
  (repeat' split) <;> simp

@[simp] theorem State.requestRestart_keeps (s : State) (o : List Byte) :
    ((s.requestRestart o).state).now = s.now ∧ ((s.requestRestart o).state).hold = s.hold
    ∧ ((s.requestRestart o).state).plant = s.plant ∧ ((s.requestRestart o).state).bowl = s.bowl
    ∧ ((s.requestRestart o).state).supervisor = s.supervisor
    ∧ ((s.requestRestart o).state).traffic = s.traffic ∧ ((s.requestRestart o).state).ptw = s.ptw
    ∧ ((s.requestRestart o).state).fcu = s.fcu ∧ ((s.requestRestart o).state).hau = s.hau
    ∧ ((s.requestRestart o).state).vdu = s.vdu ∧ ((s.requestRestart o).state).cue = s.cue
    ∧ ((s.requestRestart o).state).prf = s.prf ∧ ((s.requestRestart o).state).tcu = s.tcu
    ∧ ((s.requestRestart o).state).ntu = s.ntu ∧ ((s.requestRestart o).state).races = s.races
    ∧ ((s.requestRestart o).state).pending = s.pending := by
  simp only [State.requestRestart, State.refuse, State.doneAs, State.bare]
  (repeat' split) <;> simp

@[simp] theorem State.carryOut_keeps (s : State) (i : Instr) :
    (s.carryOut i).now = s.now ∧ (s.carryOut i).hold = s.hold ∧ (s.carryOut i).traffic = s.traffic
    ∧ (s.carryOut i).races = s.races ∧ (s.carryOut i).pending = s.pending := by
  cases i <;> simp only [State.carryOut, Answer.place, State.reply_keeps, State.writePoint_keeps,
    State.bare, State.refuse] <;> (repeat' split) <;> simp

@[simp] theorem State.takeRequest_keeps (s : State) :
    (s.takeRequest).now = s.now ∧ (s.takeRequest).hold = s.hold
    ∧ (s.takeRequest).traffic = s.traffic ∧ (s.takeRequest).races = s.races
    ∧ (s.takeRequest).pending = s.pending := by
  simp only [State.takeRequest]
  (repeat' split) <;> simp

@[simp] theorem State.deliver_keeps (s : State) (t : Telegram) (i : Instr) :
    (s.deliver t (fun u => u.carryOut i)).now = s.now
    ∧ (s.deliver t (fun u => u.carryOut i)).hold = s.hold
    ∧ (s.deliver t (fun u => u.carryOut i)).traffic = s.traffic
    ∧ (s.deliver t (fun u => u.carryOut i)).races = s.races
    ∧ (s.deliver t (fun u => u.carryOut i)).pending = s.pending := by
  simp only [State.deliver]
  (repeat' split) <;> simp

@[simp] theorem State.afterReply_keeps (s : State) :
    (s.afterReply).now = s.now ∧ (s.afterReply).hold = s.hold ∧ (s.afterReply).pending = s.pending := by
  simp only [State.afterReply]
  (repeat' split) <;> simp

@[simp] theorem State.endReply_keeps (s : State) :
    (s.endReply).now = s.now ∧ (s.endReply).hold = s.hold ∧ (s.endReply).pending = s.pending := by
  simp only [State.endReply]
  (repeat' split) <;> simp

@[simp] theorem State.endUpTransmission_keeps (s : State) :
    (s.endUpTransmission).hold = s.hold ∧ (s.endUpTransmission).pending = s.pending := by
  simp only [State.endUpTransmission]
  (repeat' split) <;> simp

@[simp] theorem State.transmissionEnd_keeps (s : State) (p : Port) :
    (s.transmissionEnd p).hold = s.hold ∧ (s.transmissionEnd p).pending = s.pending := by
  simp only [State.transmissionEnd]
  (repeat' split) <;> simp

@[simp] theorem State.goodSupervisor_keeps (s : State) (t : Telegram) :
    (s.goodSupervisor t).now = s.now ∧ (s.goodSupervisor t).hold = s.hold
    ∧ (s.goodSupervisor t).races = s.races ∧ (s.goodSupervisor t).pending = s.pending := by
  simp only [State.goodSupervisor]
  (repeat' split) <;> simp

@[simp] theorem State.goodTelegram_keeps (s : State) (p : Port) (t : Telegram) :
    (s.goodTelegram p t).now = s.now ∧ (s.goodTelegram p t).hold = s.hold
    ∧ (s.goodTelegram p t).races = s.races ∧ (s.goodTelegram p t).pending = s.pending := by
  simp only [State.goodTelegram]
  (repeat' split) <;> simp

@[simp] theorem State.completeTelegram_keeps (s : State) (p : Port) (l : List Byte) :
    (s.completeTelegram p l).now = s.now ∧ (s.completeTelegram p l).hold = s.hold
    ∧ (s.completeTelegram p l).races = s.races ∧ (s.completeTelegram p l).pending = s.pending := by
  simp only [State.completeTelegram]
  (repeat' split) <;> simp

@[simp] theorem State.extend_keeps (s : State) (p : Port) (l : List Byte) (b : Byte) :
    (s.extend p l b).now = s.now ∧ (s.extend p l b).hold = s.hold
    ∧ (s.extend p l b).races = s.races ∧ (s.extend p l b).pending = s.pending := by
  simp only [State.extend]
  (repeat' split) <;> simp

@[simp] theorem State.character_keeps (s : State) (p : Port) (c : Character) :
    (s.character p c).now = s.now ∧ (s.character p c).hold = s.hold
    ∧ (s.character p c).races = s.races ∧ (s.character p c).pending = s.pending := by
  simp only [State.character]
  (repeat' split) <;> simp

@[simp] theorem State.characterReceived_keeps (s : State) (p : Port) (x : List Bool) :
    (s.characterReceived p x).hold = s.hold ∧ (s.characterReceived p x).races = s.races
    ∧ (s.characterReceived p x).pending = s.pending := by
  simp only [State.characterReceived]
  (repeat' split) <;> simp

end Sys2Proof.Machine
end

