-- ==== Sys2Proof/Laws/Exec.lean ====
section
/-! SUPPORT. What a step and a command come to, what a raising does, what the delivery of a request comes to
when MGR is free, and what the checks of a request answer: the lemmas that a proof about a command cites. -/

namespace Sys2Proof.Machine

/-! ### Commands -/

/-- While the part works a command acts, and the step ends with the arbitration. -/
theorem State.work_of_working {s : State} (h : s.hold = .working) (act : State → State) :
    s.work act = .next (act s).arbitrate := by
  unfold State.work; rw [if_pos h]

/-- While the part is held a command of its work does nothing but the end of a step. -/
theorem State.work_of_held {s : State} (h : s.hold ≠ .working) (act : State → State) :
    s.work act = .next s.arbitrate := by
  unfold State.work; rw [if_neg h]

/-- Two answers agree when the states before the end of the step agree. -/
theorem next_arbitrate_congr {a b : State} (h : a = b) :
    (Host.Outcome.next a.arbitrate : Reaction) = .next b.arbitrate := by rw [h]

/-- Whatever a command answers has the end of a step behind it. -/
theorem exec_ends_with_arbitrate (c : Instr) (s : State) :
    ∃ u : State, exec c s = .next u.arbitrate := by
  cases c <;> exact ⟨_, rfl⟩

/-- On an empty queue the part acts by itself. -/
theorem step_of_empty {s : State} (h : s.pending = []) : step s = s.idle := by
  unfold step; rw [h]

/-- With a command in front the step is that command on the queue's rest. -/
theorem step_of_front {s : State} {c : Instr} {rest : List Instr} (h : s.pending = c :: rest) :
    step s = exec c (s.setPending rest) := by
  unfold step; rw [h]

/-- With nothing due one period of the reference passes. -/
theorem State.idle_of_none {s : State} (h : s.dueEvents = []) : s.idle = .next s.tick := by
  unfold State.idle; rw [h]

/-- With something due the part takes one of the due events, having read the free order when there
is more than one. -/
theorem State.idle_cases {s : State} (h : s.dueEvents ≠ []) :
    ∃ i ∈ s.dueEvents, s.idle = exec i s ∨ s.idle = exec i (s.setRaces (s.races + 1)) := by
  unfold State.idle
  split
  · contradiction
  · rename_i i hi
    exact ⟨i, by simp [hi], .inl rfl⟩
  · rename_i i j r hi
    have hlt : Config.raceOrder s.races % (r.length + 2) < (i :: j :: r).length := by
      simp only [List.length_cons]; exact Nat.mod_lt _ (by omega)
    refine ⟨(i :: j :: r).getD (Config.raceOrder s.races % (r.length + 2)) i, ?_, .inr rfl⟩
    rw [hi, List.getD_eq_getElem _ _ hlt]; exact List.getElem_mem hlt

/-- A step answers a next state: no rule of the spec ends the part (log 25). -/
theorem step_answers (s : State) : ∃ t : State, step s = .next t := by
  match h : s.pending with
  | c :: rest =>
    rw [step_of_front h]
    obtain ⟨u, e⟩ := exec_ends_with_arbitrate c (s.setPending rest)
    exact ⟨_, e⟩
  | [] =>
    rw [step_of_empty h]
    by_cases hd : s.dueEvents = []
    · exact ⟨_, State.idle_of_none hd⟩
    · obtain ⟨i, -, e | e⟩ := State.idle_cases hd <;> rw [e]
      · obtain ⟨u, e⟩ := exec_ends_with_arbitrate i s
        exact ⟨_, e⟩
      · obtain ⟨u, e⟩ := exec_ends_with_arbitrate i (s.setRaces (s.races + 1))
        exact ⟨_, e⟩

/-- What a step keeps of a state it keeps of every outcome of a command and of the part's own step:
the form in which an invariant is proved once over the commands. -/
theorem step_induction {P : State → Prop} (hexec : ∀ (c : Instr) (s t : State), P s →
      exec c s = .next t → P t)
    (hpending : ∀ (s : State) (l : List Instr), P s → P (s.setPending l))
    (hraces : ∀ (s : State) (n : Nat), P s → P (s.setRaces n))
    (hnow : ∀ (s : State) (n : Nat), P s → P (s.setNow n)) :
    ∀ s t : State, P s → step s = .next t → P t := by
  intro s t hs e
  match hp : s.pending with
  | c :: rest =>
    rw [step_of_front hp] at e
    exact hexec c _ t (hpending s rest hs) e
  | [] =>
    rw [step_of_empty hp] at e
    by_cases hd : s.dueEvents = []
    · rw [State.idle_of_none hd] at e
      cases e; exact hnow s _ hs
    · obtain ⟨i, -, h | h⟩ := State.idle_cases hd
      · rw [h] at e; exact hexec i s t hs e
      · rw [h] at e; exact hexec i _ t (hraces s _ hs) e

/-! ### The end of a step -/

/-- After the end of a step ALM is the judgement of that state (R173, R182). -/
theorem State.arbitrate_alm (s : State) :
    s.arbitrate.ntu.alm = (s.arbitrate.hold == .working && s.arbitrate.alarm) := by
  unfold State.arbitrate; split <;> rfl

/-- At the end of a step of a held part only ALM is judged (R182). -/
theorem State.arbitrate_of_held {s : State} (h : s.hold ≠ .working) :
    s.arbitrate = s.setNtu { s.ntu with alm := false } := by
  unfold State.arbitrate State.judgeAlarm
  rw [if_neg h]
  match e : s.hold with
  | .working => exact absurd e h
  | .powerOn => rfl
  | .lineReset => rfl

/-- A port that is not free keeps what it is doing (R33). -/
theorem State.schedule_of_busy {s : State} {g : Segment} (h : (s.field g).free = false) :
    s.schedule g = s := by
  unfold State.schedule; rw [h]; rfl

/-- A transmitter that is not IDLE keeps what it is sending (R38). -/
theorem State.sendNext_of_busy {s : State} (h : s.supervisor.line.sending ≠ none) :
    s.sendNext = s := by
  unfold State.sendNext
  rw [if_neg]
  simpa using h

/-! ### Notices -/

/-- A raising at level 0 does nothing (R171). -/
theorem State.raise_of_silent {s : State} {x : Source} (h : s.ntu.levels[x.number] = 0)
    (subject : Nat) (detail : Int) : s.raise x subject detail = s := by
  unfold State.raise Ntu.raise; rw [if_pos h]; rfl

/-- A raising at a level of 1 to 7 counts, and replaces subject and detail (R171). -/
theorem State.raise_of_enabled {s : State} {x : Source} (h : s.ntu.levels[x.number] ≠ 0)
    (subject : Nat) (detail : Int) :
    s.raise x subject detail = s.setNtu { s.ntu with
      records := s.ntu.records.set x.number
        ⟨min 255 (s.ntu.records[x.number].count + 1), subject, detail⟩ } := by
  unfold State.raise Ntu.raise; rw [if_neg h]; rfl

/-- A raising leaves levels, threshold and ALM alone. -/
@[simp] theorem State.raise_settings (s : State) (x : Source) (subject : Nat) (detail : Int) :
    (s.raise x subject detail).ntu.levels = s.ntu.levels
    ∧ (s.raise x subject detail).ntu.threshold = s.ntu.threshold
    ∧ (s.raise x subject detail).ntu.alm = s.ntu.alm := by
  by_cases h : s.ntu.levels[x.number] = 0
  · rw [State.raise_of_silent h]; exact ⟨rfl, rfl, rfl⟩
  · rw [State.raise_of_enabled h]; exact ⟨rfl, rfl, rfl⟩

/-! ### Vectors -/

/-- Reading after a write at one place of a vector. -/
theorem vector_get_set {α : Type} {n : Nat} (v : Vector α n) (i j : Fin n) (x : α) :
    (v.set i x)[j] = if i = j then x else v[j] := by
  simp only [Fin.getElem_fin, Vector.getElem_set, Fin.ext_iff]

/-- Reading after a change at one place of a vector. -/
theorem vector_get_change {α : Type} {n : Nat} (v : Vector α n) (i j : Fin n) (f : α → α) :
    (change v i f)[j] = if i = j then f v[i] else v[j] := by
  unfold change; exact vector_get_set v i j _

/-- The elements of a vector of the values of a function. -/
@[simp] theorem tabulate_get {α : Type} {n : Nat} (f : Fin n → α) (i : Fin n) :
    (tabulate n f)[i] = f i := by
  simp [tabulate]

/-- What the first index of a condition is. -/
theorem firstIndex_some {α : Type} {n : Nat} {v : Vector α n} {p : α → Bool} {i : Fin n}
    (h : firstIndex v p = some i) : p v[i] = true ∧ ∀ j : Fin n, j < i → p v[j] = false := by
  unfold firstIndex at h
  refine ⟨List.find?_some (p := fun i => p v[i]) h, fun j hj => ?_⟩
  obtain ⟨-, k, hk, e, hall⟩ := List.find?_eq_some_iff_getElem.mp h
  have hk' : k = i.val := by simpa [List.getElem_finRange, Fin.ext_iff] using e
  have hlt : j.val < k := by omega
  have := hall j.val hlt
  simpa using this

/-- There is no first index of a condition that no element meets. -/
theorem firstIndex_none {α : Type} {n : Nat} {v : Vector α n} {p : α → Bool} :
    firstIndex v p = none ↔ ∀ i : Fin n, p v[i] = false := by
  unfold firstIndex; simp

/-! ### Requests -/

/-- When MGR is free and no request waits, a delivered request is carried out at once (R15, R176). -/
theorem State.deliver_of_attends {s : State} (h : s.mgr.inHand = none) (h' : s.mgr.slot = none)
    (h'' : s.mgr.queue = []) (t : Telegram) (act : State → State) : s.deliver t act = act s := by
  unfold State.deliver
  rw [if_pos]
  simp [Mgr.ready, h, h', h'']

/-- When MGR has a request in hand or a REPLY in its slot, a delivered request only joins the queue
(R176). -/
theorem State.deliver_of_busy {s : State} (h : s.mgr.inHand ≠ none ∨ s.mgr.slot ≠ none)
    (t : Telegram) (act : State → State) : s.deliver t act = s.enqueueRequest t := by
  have hr : s.mgr.ready = false := by
    rcases h with h | h <;> simp [Mgr.ready, h, Option.isSome_iff_ne_none]
  have hq : (s.enqueueRequest t).mgr.ready = false := by
    unfold State.enqueueRequest
    split
    · exact hr
    · simpa [State.portEvent, State.line, State.setLine] using hr
  unfold State.deliver
  rw [if_neg (by simp [hr])]
  unfold State.takeRequest
  rw [hq]

/-- A request whose checks of orders 2 and 3 pass is acted on (R177). -/
theorem State.indexed_of_parse {s : State} {n i : Nat} {layout : Layout} {operands : List Byte}
    {fields : List Nat} (h : layout.parse operands = some (i :: fields)) (hi : i < n)
    (act : Fin n → List Nat → Answer) :
    s.indexed n layout operands act = act ⟨i, hi⟩ fields := by
  unfold State.indexed; rw [h]; simp [hi]

/-- An index out of range is BAD_INDEX (R177). -/
theorem State.indexed_of_index {s : State} {n i : Nat} {layout : Layout} {operands : List Byte}
    {fields : List Nat} (h : layout.parse operands = some (i :: fields)) (hi : ¬i < n)
    (act : Fin n → List Nat → Answer) :
    s.indexed n layout operands act = s.refuse .badIndex := by
  unfold State.indexed; rw [h]; simp [hi]

/-- Operands of another length are BAD_REQUEST (R177). -/
theorem State.indexed_of_length {s : State} {n : Nat} {layout : Layout} {operands : List Byte}
    (h : layout.parse operands = none) (act : Fin n → List Nat → Answer) :
    s.indexed n layout operands act = s.refuse .badRequest := by
  unfold State.indexed; rw [h]

/-- A one-byte number is its own index. -/
@[simp] theorem byteOf_toNat_fin {n : Nat} (h : n ≤ 256) (i : Fin n) :
    (byteOf i.val).toNat = i.val := by
  have := i.isLt
  simp only [byteOf, BitVec.toNat_ofNat]
  omega

end Sys2Proof.Machine
end

