-- ==== Sys2Proof/Laws/Fields.lean ====
section
/-! SUPPORT. How numbers, operand bytes and record fields translate into each other (11.2): the lemmas that
a proof about a write or a read of a table cites. -/

namespace Sys2Proof.Machine

/-- The code of the signed value of a 16-bit code is that code. -/
theorem codeOf_signedOf {n : Nat} (h : n < 65536) : codeOf (signedOf n) = n := by
  unfold codeOf signedOf; split <;> omega

/-- The signed value of the code of a value in range is that value. -/
theorem signedOf_codeOf {v : Int} (h : -32768 ≤ v) (h' : v ≤ 32767) : signedOf (codeOf v) = v := by
  unfold codeOf signedOf; split <;> omega

/-- The signed value of a 16-bit code lies in −32768 to 32767. -/
theorem signedOf_range {n : Nat} (h : n < 65536) : -32768 ≤ signedOf n ∧ signedOf n ≤ 32767 := by
  unfold signedOf; split <;> omega

/-- Two bytes make a number below 65536. -/
theorem word16_lt (hi lo : Byte) : word16 hi lo < 65536 := by
  have := hi.isLt
  have := lo.isLt
  unfold word16; omega

/-- The number in a byte is below 256. -/
theorem byte_lt (b : Byte) : b.toNat < 256 := b.isLt

/-- A byte is the byte of its number. -/
@[simp] theorem byteOf_toNat (b : Byte) : byteOf b.toNat = b := by
  unfold byteOf; simp

/-- A number below 256 is the number of its byte. -/
theorem toNat_byteOf {n : Nat} (h : n < 256) : (byteOf n).toNat = n := by
  unfold byteOf; simp only [BitVec.toNat_ofNat]; omega

/-- The two bytes of a number made of two bytes. -/
@[simp] theorem bytes16_word16 (hi lo : Byte) : bytes16 (word16 hi lo) = [hi, lo] := by
  have h1 := hi.isLt
  have h2 := lo.isLt
  have e1 : (hi.toNat * 256 + lo.toNat) / 256 = hi.toNat := by omega
  have e2 : byteOf (hi.toNat * 256 + lo.toNat) = lo := by
    apply BitVec.eq_of_toNat_eq
    simp only [byteOf, BitVec.toNat_ofNat]
    omega
  simp only [bytes16, word16, e1, e2, byteOf_toNat]

/-- What is cut into fields is written out as it was. -/
theorem Layout.emit_of_parse : ∀ (widths : Layout) (bytes : List Byte) (fields : List Nat),
    Layout.parse widths bytes = some fields → Layout.emit widths fields = bytes := by
  intro widths bytes
  induction widths, bytes using Layout.parse.induct with
  | case1 => intro fields h; simp [Layout.parse] at h; subst h; rfl
  | case2 => intro fields h; simp [Layout.parse] at h
  | case3 widths b rest ih =>
    intro fields h
    simp only [Layout.parse, Option.map_eq_some_iff] at h
    obtain ⟨r, hr, rfl⟩ := h
    simp only [Layout.emit, byteOf_toNat, ih r hr]
  | case4 widths hi lo rest ih =>
    intro fields h
    simp only [Layout.parse, Option.map_eq_some_iff] at h
    obtain ⟨r, hr, rfl⟩ := h
    simp only [Layout.emit, bytes16_word16, ih r hr, List.cons_append, List.nil_append]
  | case5 => intro fields h; simp_all [Layout.parse]

/-- There are as many fields as the layout has. -/
theorem Layout.parse_length : ∀ (widths : Layout) (bytes : List Byte) (fields : List Nat),
    Layout.parse widths bytes = some fields → fields.length = widths.length := by
  intro widths bytes
  induction widths, bytes using Layout.parse.induct with
  | case1 => intro fields h; simp [Layout.parse] at h; subst h; rfl
  | case2 => intro fields h; simp [Layout.parse] at h
  | case3 widths b rest ih =>
    intro fields h
    simp only [Layout.parse, Option.map_eq_some_iff] at h
    obtain ⟨r, hr, rfl⟩ := h
    simp [ih r hr]
  | case4 widths hi lo rest ih =>
    intro fields h
    simp only [Layout.parse, Option.map_eq_some_iff] at h
    obtain ⟨r, hr, rfl⟩ := h
    simp [ih r hr]
  | case5 => intro fields h; simp_all [Layout.parse]

/-- A field of one byte is at most 255. -/
theorem Layout.parse_one_le : ∀ (widths : Layout) (bytes : List Byte) (fields : List Nat),
    Layout.parse widths bytes = some fields →
    ∀ k x : Nat, widths[k]? = some 1 → fields[k]? = some x → x ≤ 255 := by
  intro widths bytes
  induction widths, bytes using Layout.parse.induct with
  | case1 => intro fields h k x hw; simp at hw
  | case2 => intro fields h; simp [Layout.parse] at h
  | case3 widths b rest ih =>
    intro fields h k x hw hv
    simp only [Layout.parse, Option.map_eq_some_iff] at h
    obtain ⟨r, hr, e⟩ := h
    subst e
    cases k with
    | zero => simp at hv; omega
    | succ k => exact ih r hr k x (by simpa using hw) (by simpa using hv)
  | case4 widths hi lo rest ih =>
    intro fields h k x hw hv
    simp only [Layout.parse, Option.map_eq_some_iff] at h
    obtain ⟨r, hr, e⟩ := h
    subst e
    cases k with
    | zero => simp at hw
    | succ k => exact ih r hr k x (by simpa using hw) (by simpa using hv)
  | case5 => intro fields h; simp_all [Layout.parse]

/-- Every field is below 65536. -/
theorem Layout.parse_lt : ∀ (widths : Layout) (bytes : List Byte) (fields : List Nat),
    Layout.parse widths bytes = some fields → ∀ x ∈ fields, x < 65536 := by
  intro widths bytes
  induction widths, bytes using Layout.parse.induct with
  | case1 => intro fields h; simp [Layout.parse] at h; subst h; simp
  | case2 => intro fields h; simp [Layout.parse] at h
  | case3 widths b rest ih =>
    intro fields h
    simp only [Layout.parse, Option.map_eq_some_iff] at h
    obtain ⟨r, hr, rfl⟩ := h
    intro x hx
    rcases List.mem_cons.mp hx with rfl | hx
    · have := b.isLt; omega
    · exact ih r hr x hx
  | case4 widths hi lo rest ih =>
    intro fields h
    simp only [Layout.parse, Option.map_eq_some_iff] at h
    obtain ⟨r, hr, rfl⟩ := h
    intro x hx
    rcases List.mem_cons.mp hx with rfl | hx
    · exact word16_lt hi lo
    · exact ih r hr x hx
  | case5 => intro fields h; simp_all [Layout.parse]

/-! ### Records -/

/-- The field codes of a flag that was 0 or 1. -/
theorem flagCode_of_le_one {n : Nat} (h : n ≤ 1) : flagCode (n == 1) = n := by
  match n, h with
  | 0, _ => rfl
  | 1, _ => rfl

/-- A capture descriptor holds the very field codes it was read from. -/
theorem Descriptor.fields_of_ofFields {fields : List Nat} {d : Descriptor}
    (h : Descriptor.ofFields fields = some d) : d.fields = fields := by
  unfold Descriptor.ofFields at h
  split at h
  · cases h; rfl
  · cases h

/-- A cue record holds the very field codes it was read from. -/
theorem CueRecord.fields_of_ofFields {fields : List Nat} {c : CueRecord}
    (h : CueRecord.ofFields fields = some c) (hb : ∀ x ∈ fields, x < 65536) :
    c.fields = fields := by
  unfold CueRecord.ofFields at h
  split at h
  · cases h
    simp only [List.mem_cons, forall_eq_or_imp] at hb
    simp only [CueRecord.fields, codeOf_signedOf, hb]
  · cases h

end Sys2Proof.Machine
end

