-- ==== Sys2Proof/Laws/Fog.lean ====
section
/-! SUPPORT. What an evaluation of FCU leaves: the record of FCU after each of its stages, and what is
written to the output points. -/

namespace Sys2Proof.Machine

/-- A zone's record after its evaluation, by the inputs of the zone (R65 to R73). -/
def Fcu.evaluated (f : Fcu) (inputs : Option (Int × Int × Int × Bool)) (z : Fin 4) : FogZone :=
  match f.valid, inputs with
  | true, some x => f.computeZone f.zones[z] x.1 x.2.1 x.2.2.1 x.2.2.2
  | _, _ => f.zones[z].unknown

/-- R74's notices and trigger leave the record of FCU alone. -/
@[simp] theorem State.zoneMoved_fcu (s : State) (z : Fin 4) (a b : ZoneState) :
    (s.zoneMoved z a b).fcu = s.fcu := by
  simp only [State.zoneMoved]; (repeat' split) <;> simp

/-- A zone's new record is stored, the others stay. -/
@[simp] theorem State.setZone_fcu (s : State) (i : Fin 4) (z : FogZone) :
    (s.setZone i z).fcu = { s.fcu with zones := s.fcu.zones.set i z } := by
  simp only [State.setZone, State.zoneMoved_fcu]; rfl

/-- The record of FCU after one zone's evaluation. -/
theorem State.evalZone_fcu (s : State) (z : Fin 4) :
    (s.evalZone z).fcu
      = { s.fcu with zones := s.fcu.zones.set z (s.fcu.evaluated (s.fogInputs z) z) } := by
  unfold State.evalZone Fcu.evaluated
  split <;> rename_i h1 h2
  · rw [h1, h2]; exact State.setZone_fcu _ _ _
  · rw [State.setZone_fcu]
    split
    · rename_i x e1 e2
      exact absurd e2 (fun e2 => h2 x.1 x.2.1 x.2.2.1 x.2.2.2 e1 e2)
    · rfl

/-- A zone's evaluation depends on no other zone. -/
theorem Fcu.evaluated_congr (f : Fcu) (v : Vector FogZone 4) (x : Option (Int × Int × Int × Bool))
    (z : Fin 4) (h : v[z] = f.zones[z]) : Fcu.evaluated { f with zones := v } x z = f.evaluated x z := by
  have e : ∀ o : FogZone, ∀ t rh t1 : Int, ∀ live : Bool,
      Fcu.computeZone { f with zones := v } o t rh t1 live = f.computeZone o t rh t1 live :=
    fun _ _ _ _ _ => rfl
  unfold Fcu.evaluated
  simp only [h, e]

/-- What a zone reads is the same in states with the same points. -/
theorem State.fogInputs_congr {s t : State} (h : s.ptw = t.ptw) (z : Fin 4) :
    s.fogInputs z = t.fogInputs z := by
  simp only [State.fogInputs, State.readRole, State.runtime, h]

/-- The record of FCU after its zones are evaluated: each by what it read (R65, R66). -/
theorem State.evalZones_fcu (s : State) :
    ((List.finRange 4).foldl State.evalZone s).fcu
      = { s.fcu with zones := tabulate 4 (fun z => s.fcu.evaluated (s.fogInputs z) z) } := by
  have e : List.finRange 4 = [0, 1, 2, 3] := rfl
  have next : ∀ (u : State) (f : Fcu) (z : Fin 4), u.ptw = s.ptw → u.fcu = f →
      (u.evalZone z).fcu = { f with zones := f.zones.set z (f.evaluated (s.fogInputs z) z) } := by
    intro u f z h1 h2
    rw [State.evalZone_fcu, State.fogInputs_congr h1, h2]
  rw [e]
  simp only [List.foldl_cons, List.foldl_nil]
  rw [next _ _ 3 (by simp) (next _ _ 2 (by simp) (next _ _ 1 (by simp) (next _ _ 0 rfl rfl)))]
  congr 1
  apply Vector.ext
  intro i hi
  have : i = 0 ∨ i = 1 ∨ i = 2 ∨ i = 3 := by omega
  rcases this with rfl | rfl | rfl | rfl <;>
    simp [tabulate, List.finRange_succ] <;>
    exact Fcu.evaluated_congr s.fcu _ _ _ (by simp)

/-- The record of FCU after the first three stages (R65). -/
theorem State.fogStages_fcu (s : State) :
    s.fogStages.fcu = Fcu.stepStage (Fcu.formDemand
      { s.fcu with
        fields := s.fogFields,
        zones := tabulate 4 (fun z =>
          Fcu.evaluated { s.fcu with fields := s.fogFields } (s.fogInputs z) z) }) s.now := by
  simp only [State.fogStages, State.setFcu_fcu, State.evalZones_keeps]
  rw [State.evalZones_fcu]
  rfl

/-- A recomputation of the effective stage (R78, R79). -/
theorem State.recomputeStage_fcu (s : State) :
    s.recomputeStage.fcu = { s.fcu with
      effective := effectiveStage s.fcu.stage s.hau,
      starved := decide (effectiveStage s.fcu.stage s.hau < s.fcu.stage) } := by
  simp only [State.recomputeStage]
  split <;> simp

/-- The fan output is recorded (R81). -/
theorem State.writeFan_fcu (s : State) :
    s.writeFan.fcu = { s.fcu with fan := some s.fcu.fanOutput } := by
  simp only [State.writeFan]; simp

/-- The stages of an evaluation leave zones, D, S and the time of its last change as they form them; the
effective stage and the fan that follow touch none of them (R65). -/
theorem State.fogEvaluation_stages (s : State) :
    let now := max s.now s.fcu.nextEval
    let f := Fcu.stepStage (Fcu.formDemand
      { s.fcu with
        fields := s.fogFields, nextEval := s.fcu.nextEval + seconds 10,
        zones := tabulate 4 (fun z =>
          Fcu.evaluated { s.fcu with fields := s.fogFields } (s.fogInputs z) z) }) now
    s.fogEvaluation.now = now ∧ s.fogEvaluation.fcu.zones = f.zones
    ∧ s.fogEvaluation.fcu.demand = f.demand ∧ s.fogEvaluation.fcu.stage = f.stage
    ∧ s.fogEvaluation.fcu.lastChange = f.lastChange := by
  intro now f
  let w := ((s.comesAt s.fcu.nextEval).setFcu
    { s.fcu with nextEval := s.fcu.nextEval + seconds 10 }).fogStages
  have hw : w.fcu = f := State.fogStages_fcu _
  have hn : w.now = now := (State.fogStages_keeps _).1
  have he : s.fogEvaluation = (List.finRange 4).foldl State.sampleZone
      (if w.fcu.stage = s.fcu.stage then w else w.recomputeStage).writeFan := rfl
  rw [he]
  simp only [State.sampleZones_keeps, State.writeFan_keeps, State.writeFan_fcu]
  split
  · rw [hw, hn]; exact ⟨rfl, rfl, rfl, rfl, rfl⟩
  · rw [State.recomputeStage_keeps w |>.1, State.recomputeStage_fcu, hw, hn]
    exact ⟨rfl, rfl, rfl, rfl, rfl⟩

end Sys2Proof.Machine
end

