-- ==== Sys2Proof/Laws/Heat.lean ====
section
/-! SUPPORT. What an evaluation of HAU leaves: its own record after it, and the inputs that the published
result was allocated from. -/

namespace Sys2Proof.Machine

/-- The boiler's writer remembers the command of the result that stands. -/
theorem State.writeBoiler_hau (s : State) :
    s.writeBoiler.hau = { s.hau with prevBoiler := s.hau.result.boilerCommand } := by
  simp only [State.writeBoiler]
  split <;> simp

/-- The record of HAU after a result is published and acted on (R90, R94, R101, R104). -/
theorem State.published_hau (s : State) (r : AllocationResult) (b : Bool) :
    ((s.publish r).followResult b).hau = { s.hau with
      budget := r.budget, first := false, call := r.call, result := r, prevBoiler := r.boilerCommand } := by
  simp [State.followResult, State.publish, State.writeBoiler_hau]

/-- The record of HAU after an evaluation; the inputs are read once, before anything is written (R87). -/
theorem State.heatEvaluation_hau (s : State) :
    s.heatEvaluation.hau =
      let r := s.heatInputs.allocate
      { s.hau with budget := r.budget, first := false, call := r.call, result := r,
                   prevBoiler := r.boilerCommand, nextEval := s.hau.nextEval + seconds 2 } := by
  simp only [State.heatEvaluation, State.published_hau]
  rfl

/-- The clock after an evaluation of HAU. -/
theorem State.heatEvaluation_now (s : State) : s.heatEvaluation.now = max s.now s.hau.nextEval := by
  simp only [State.heatEvaluation, State.followResult_keeps, State.publish_keeps]
  rfl

/-- What HEAT_EVALUATION answers while the part works, and HAU's record after it. -/
theorem exec_heatEvaluation {s t : State} (h : s.hold = .working)
    (e : exec .heatEvaluation s = .next t) :
    t = s.heatEvaluation.arbitrate ∧ t.hau =
      let r := s.heatInputs.allocate
      { s.hau with budget := r.budget, first := false, call := r.call, result := r,
                   prevBoiler := r.boilerCommand, nextEval := s.hau.nextEval + seconds 2 } := by
  have e' : exec .heatEvaluation s = .next s.heatEvaluation.arbitrate :=
    State.work_of_working h State.heatEvaluation
  have ht : t = s.heatEvaluation.arbitrate := (Host.Outcome.next.inj (e'.symm.trans e)).symm
  refine ⟨ht, ?_⟩
  rw [ht, (State.arbitrate_keeps _).2.2.2.1, State.heatEvaluation_hau]

/-- The filtered budget, the first mark, the next evaluation and the clock after HEAT_EVALUATION (R87, R90). -/
theorem exec_heatEvaluation_record {s t : State} (h : s.hold = .working)
    (e : exec .heatEvaluation s = .next t) :
    t.hau.budget = filterBudget s.hau.first s.hau.budget s.recovered.1 ∧ t.hau.first = false
    ∧ t.hau.nextEval = s.hau.nextEval + seconds 2 ∧ t.now = max s.now s.hau.nextEval := by
  obtain ⟨ht, hh⟩ := exec_heatEvaluation h e
  rw [hh]
  refine ⟨rfl, rfl, rfl, ?_⟩
  rw [ht, (State.arbitrate_keeps _).1, State.heatEvaluation_now]

end Sys2Proof.Machine
end

