-- ==== Sys2Proof/Laws/Memory.lean ====
section
/-! SUPPORT. The laws of the addressed memories: what a read gives after a write, and that a write keeps
the canonical form. -/

namespace Sys2Proof.Machine

variable {α : Type}

/-- An address below every listed one reads as `zero`. -/
theorem Memory.read_below (zero : α) (m : List (Nat × α)) (a : Nat) (h : ∀ x ∈ m, a < x.1) :
    Memory.read zero m a = zero := by
  induction m with
  | nil => rfl
  | cons x rest ih =>
    have hx : ¬ x.1 = a := by have := h x (by simp); omega
    simp only [Memory.read, hx, if_false]
    exact ih (fun y hy => h y (by simp [hy]))

variable [DecidableEq α]

/-- What is placed at the front is read back there. -/
theorem Memory.read_place_same (zero : α) (a : Nat) (v : α) (m : List (Nat × α))
    (h : ∀ x ∈ m, a < x.1) : Memory.read zero (Memory.place zero a v m) a = v := by
  unfold Memory.place
  split
  · rw [Memory.read_below zero m a h]; exact Eq.symm ‹_›
  · simp [Memory.read]

/-- What is placed at the front changes no other address. -/
theorem Memory.read_place_other (zero : α) (a b : Nat) (v : α) (m : List (Nat × α)) (h : b ≠ a) :
    Memory.read zero (Memory.place zero a v m) b = Memory.read zero m b := by
  unfold Memory.place
  split
  · rfl
  · have q : ¬ a = b := fun q => h q.symm
    simp only [Memory.read, q, if_false]

/-- Read after write at the same address: the value written. -/
theorem Memory.read_write_same (zero : α) (m : List (Nat × α)) (a : Nat) (v : α)
    (h : m.Pairwise (fun x y => x.1 < y.1)) : Memory.read zero (Memory.write zero m a v) a = v := by
  induction m with
  | nil => exact Memory.read_place_same zero a v [] (by simp)
  | cons x rest ih =>
    obtain ⟨hx, hr⟩ := List.pairwise_cons.1 h
    simp only [Memory.write]
    split
    · refine Memory.read_place_same zero a v (x :: rest) (fun y hy => ?_)
      rcases List.mem_cons.1 hy with e | e
      · subst e; assumption
      · have := hx y e; omega
    · split
      · rename_i e; exact Memory.read_place_same zero a v rest (fun y hy => e ▸ hx y hy)
      · rename_i e
        have q : ¬ x.1 = a := fun q => e q.symm
        simp only [Memory.read, q, if_false]
        exact ih hr

/-- Read after write at another address: what stood there. -/
theorem Memory.read_write_other (zero : α) (m : List (Nat × α)) (a b : Nat) (v : α) (hb : b ≠ a) :
    Memory.read zero (Memory.write zero m a v) b = Memory.read zero m b := by
  induction m with
  | nil => exact Memory.read_place_other zero a b v [] hb
  | cons x rest ih =>
    simp only [Memory.write]
    split
    · exact Memory.read_place_other zero a b v (x :: rest) hb
    · split
      · rename_i e
        rw [Memory.read_place_other zero a b v rest hb]
        have q : ¬ x.1 = b := fun q => hb (q ▸ e.symm)
        simp only [Memory.read, q, if_false]
      · simp only [Memory.read, ih]

/-- Every entry after a write stood there before or is the one written. -/
theorem Memory.mem_write (zero : α) (m : List (Nat × α)) (a : Nat) (v : α) (x : Nat × α)
    (h : x ∈ Memory.write zero m a v) : x ∈ m ∨ (x = (a, v) ∧ v ≠ zero) := by
  induction m with
  | nil =>
    simp only [Memory.write, Memory.place] at h
    split at h
    · exact absurd h (by simp)
    · exact .inr ⟨by simpa using h, by assumption⟩
  | cons y rest ih =>
    simp only [Memory.write] at h
    split at h
    · unfold Memory.place at h
      split at h
      · exact .inl h
      · rcases List.mem_cons.1 h with e | e
        · exact .inr ⟨e, by assumption⟩
        · exact .inl e
    · split at h
      · unfold Memory.place at h
        split at h
        · exact .inl (List.mem_cons_of_mem _ h)
        · rcases List.mem_cons.1 h with e | e
          · exact .inr ⟨e, by assumption⟩
          · exact .inl (List.mem_cons_of_mem _ e)
      · rcases List.mem_cons.1 h with e | e
        · exact .inl (by simp [e])
        · rcases ih e with q | q
          · exact .inl (List.mem_cons_of_mem _ q)
          · exact .inr q

/-- A write keeps the addresses strictly rising. -/
theorem Memory.write_rising (zero : α) (m : List (Nat × α)) (a : Nat) (v : α)
    (h : m.Pairwise (fun x y => x.1 < y.1)) :
    (Memory.write zero m a v).Pairwise (fun x y => x.1 < y.1) := by
  induction m with
  | nil => simp only [Memory.write, Memory.place]; split <;> simp
  | cons x rest ih =>
    obtain ⟨hx, hr⟩ := List.pairwise_cons.1 h
    simp only [Memory.write]
    split
    · unfold Memory.place
      split
      · exact h
      · refine List.pairwise_cons.2 ⟨fun y hy => ?_, h⟩
        rcases List.mem_cons.1 hy with e | e
        · subst e; assumption
        · have := hx y e; omega
    · split
      · rename_i e
        unfold Memory.place
        split
        · exact hr
        · exact List.pairwise_cons.2 ⟨fun y hy => e ▸ hx y hy, hr⟩
      · refine List.pairwise_cons.2 ⟨fun y hy => ?_, ih hr⟩
        rcases Memory.mem_write zero rest a v y hy with e | e
        · exact hx y e
        · rw [e.1]; show x.1 < a; omega

/-- A write keeps the canonical form of a memory. -/
theorem Memory.write_wf (size : Nat) (zero : α) (m : List (Nat × α)) (a : Nat) (v : α)
    (h : Memory.wf size zero m) (ha : a < size) : Memory.wf size zero (Memory.write zero m a v) := by
  refine ⟨Memory.write_rising zero m a v h.1, fun x hx => ?_⟩
  rcases Memory.mem_write zero m a v x hx with e | e
  · exact h.2 x e
  · rw [e.1]; exact ⟨ha, e.2⟩

end Sys2Proof.Machine
end

