-- ==== Sys2Proof/Laws/PerInstr.lean ====
section
/-! SUPPORT. Statements for all commands, one lemma for each constructor of Instr. -/

namespace Sys2Proof.Laws

/-- Every request command that can come is sent as a body that fits a telegram and is read back as that
very command (R5, R8, R178, R180); a command that is no request has no body. -/
def RoundTrip.Statement (i : Instr) : Prop :=
  i.wf = true → ∀ (source : Byte) (body : List Byte), encodeRequest i = some (source, body) →
    decodeRequest source body = i ∧ body.length ≤ 40

/-- A request with a code of its own reads back as itself. -/
theorem roundTrip_of_coded {i : Instr} {r : Request} {code : Byte} (hw : i.wf = r.fits)
    (he : encodeRequest i = some (encodeCoded code r))
    (hd : decodeKnown r.source code r.tag r.operands = some i) : RoundTrip.Statement i := by
  intro h source body e
  rw [he] at e
  simp only [encodeCoded, Option.some.injEq, Prod.mk.injEq] at e
  obtain ⟨rfl, rfl⟩ := e
  rw [hw] at h
  simp only [Request.fits, decide_eq_true_eq] at h
  refine ⟨?_, by simp only [List.length_cons]; omega⟩
  simp only [decodeRequest, hd]

/-- A write request reads back as itself. -/
theorem roundTrip_of_write {i : Instr} {r : Request} {table : Byte} (hw : i.wf = r.fitsWrite)
    (he : encodeRequest i = some (encodeWrite table r))
    (hd : decodeWrite r.source r.tag table r.operands = some i) : RoundTrip.Statement i := by
  intro h source body e
  rw [he] at e
  simp only [encodeWrite, Option.some.injEq, Prod.mk.injEq] at e
  obtain ⟨rfl, rfl⟩ := e
  rw [hw] at h
  simp only [Request.fitsWrite, decide_eq_true_eq] at h
  refine ⟨?_, by simp only [List.length_cons]; omega⟩
  have hk : decodeKnown r.source 1#8 r.tag (table :: r.operands) = some i := hd
  simp only [decodeRequest, hk]

/-- A read request, whose first operand names what is read, reads back as itself. -/
theorem roundTrip_of_read {i : Instr} {r : Request} {code : Byte} {last : Nat}
    {row : Request → Instr} (hi : i = row r) (hw : i.wf = (r.fits && r.leadsWith last))
    (he : encodeRequest i = some (encodeCoded code r))
    (hd : decodeKnown r.source code r.tag r.operands = decodeCoded last r row) :
    RoundTrip.Statement i := by
  intro h source body e
  rw [hw, Bool.and_eq_true] at h
  obtain ⟨h1, h2⟩ := h
  rw [he] at e
  simp only [encodeCoded, Option.some.injEq, Prod.mk.injEq] at e
  obtain ⟨rfl, rfl⟩ := e
  simp only [Request.fits, decide_eq_true_eq] at h1
  refine ⟨?_, by simp only [List.length_cons]; omega⟩
  have hk : decodeCoded last r row = some i := by
    cases hl : r.operands with
    | nil => simp [Request.leadsWith, hl] at h2
    | cons c l =>
      simp only [Request.leadsWith, hl, decide_eq_true_eq] at h2
      simp only [decodeCoded, hl, h2, if_true, hi]
  simp only [decodeRequest, hd, hk]

/-- A code, table or unit that R8, R178 and R180 do not know is read as no known request. -/
theorem decodeKnown_of_unknown {source code tag : Byte} {operands : List Byte}
    (h : knownRequest (code :: tag :: operands) = false) :
    decodeKnown source code tag operands = none := by
  unfold knownRequest at h
  unfold decodeKnown
  simp only at h ⊢
  split at h
  · rename_i hc
    simp only [hc, decide_eq_false_iff_not, Nat.not_le] at h ⊢
    unfold decodeWrite
    simp only
    split <;> first | omega | rfl
  · rename_i hc
    simp only [hc, decide_eq_false_iff_not, Nat.not_le] at h ⊢
    unfold decodeCoded
    simp only
    rw [if_neg (by omega)]
  · rename_i hc
    simp only [hc, decide_eq_false_iff_not, Nat.not_le] at h ⊢
    unfold decodeCoded
    simp only
    rw [if_neg (by omega)]
  · rename_i hc
    simp only [hc]
  · rename_i hc
    simp only [hc, decodeCoded]
  · rename_i hc
    simp only [hc, decodeCoded]
  · simp only [decide_eq_false_iff_not] at h
    split <;> first | rfl | omega

/-- A command that is no request has no body. -/
theorem roundTrip_of_none {i : Instr} (he : encodeRequest i = none) : RoundTrip.Statement i := by
  intro _ source body e
  rw [he] at e
  cases e

/-- CHARACTER_RECEIVED. -/
theorem RoundTrip.characterReceived (port : Port) (samples : List Bool) :
    RoundTrip.Statement (.characterReceived port samples) := roundTrip_of_none rfl

/-- GAP_TIMER_EXPIRY. -/
theorem RoundTrip.gapTimerExpiry (port : Port) :
    RoundTrip.Statement (.gapTimerExpiry port) := roundTrip_of_none rfl

/-- PORT_QUIET. -/
theorem RoundTrip.portQuiet (segment : Segment) :
    RoundTrip.Statement (.portQuiet segment) := roundTrip_of_none rfl

/-- TRANSMISSION_END. -/
theorem RoundTrip.transmissionEnd (port : Port) :
    RoundTrip.Statement (.transmissionEnd port) := roundTrip_of_none rfl

/-- REPLY_WINDOW_EXPIRY. -/
theorem RoundTrip.replyWindowExpiry (segment : Segment) :
    RoundTrip.Statement (.replyWindowExpiry segment) := roundTrip_of_none rfl

/-- POLL_DUE. -/
theorem RoundTrip.pollDue (segment : Segment) (slot : Fin 32) :
    RoundTrip.Statement (.pollDue segment slot) := roundTrip_of_none rfl

/-- INBOUND_TELEGRAM_TAKE. -/
theorem RoundTrip.inboundTelegramTake :
    RoundTrip.Statement (.inboundTelegramTake) := roundTrip_of_none rfl

/-- STALE_EXPIRY. -/
theorem RoundTrip.staleExpiry (point : Fin 256) :
    RoundTrip.Statement (.staleExpiry point) := roundTrip_of_none rfl

/-- HOLD_EXPIRY. -/
theorem RoundTrip.holdExpiry (point : Fin 256) :
    RoundTrip.Statement (.holdExpiry point) := roundTrip_of_none rfl

/-- REFRESH_EXPIRY. -/
theorem RoundTrip.refreshExpiry (point : Fin 256) :
    RoundTrip.Statement (.refreshExpiry point) := roundTrip_of_none rfl

/-- OVERRIDE_EXPIRY. -/
theorem RoundTrip.overrideExpiry (point : Fin 256) :
    RoundTrip.Statement (.overrideExpiry point) := roundTrip_of_none rfl

/-- FOG_EVALUATION. -/
theorem RoundTrip.fogEvaluation :
    RoundTrip.Statement (.fogEvaluation) := roundTrip_of_none rfl

/-- HEAT_EVALUATION. -/
theorem RoundTrip.heatEvaluation :
    RoundTrip.Statement (.heatEvaluation) := roundTrip_of_none rfl

/-- SEEK_STEP_END. -/
theorem RoundTrip.seekStepEnd (channel : Fin 4) :
    RoundTrip.Statement (.seekStepEnd channel) := roundTrip_of_none rfl

/-- SEARCH_STEP_END. -/
theorem RoundTrip.searchStepEnd (channel : Fin 4) :
    RoundTrip.Statement (.searchStepEnd channel) := roundTrip_of_none rfl

/-- SEAT_STEP_END. -/
theorem RoundTrip.seatStepEnd (channel : Fin 4) :
    RoundTrip.Statement (.seatStepEnd channel) := roundTrip_of_none rfl

/-- SETTLE_END. -/
theorem RoundTrip.settleEnd (channel : Fin 4) :
    RoundTrip.Statement (.settleEnd channel) := roundTrip_of_none rfl

/-- CLOSED_ASSERT. -/
theorem RoundTrip.closedAssert (channel : Fin 4) :
    RoundTrip.Statement (.closedAssert channel) := roundTrip_of_none rfl

/-- CLOSED_RELEASE. -/
theorem RoundTrip.closedRelease (channel : Fin 4) :
    RoundTrip.Statement (.closedRelease channel) := roundTrip_of_none rfl

/-- MAN_ASSERT. -/
theorem RoundTrip.manAssert (channel : Fin 4) :
    RoundTrip.Statement (.manAssert channel) := roundTrip_of_none rfl

/-- MAN_RELEASE. -/
theorem RoundTrip.manRelease (channel : Fin 4) :
    RoundTrip.Statement (.manRelease channel) := roundTrip_of_none rfl

/-- DFLT_ASSERT. -/
theorem RoundTrip.dfltAssert (channel : Fin 4) :
    RoundTrip.Statement (.dfltAssert channel) := roundTrip_of_none rfl

/-- DFLT_RELEASE. -/
theorem RoundTrip.dfltRelease (channel : Fin 4) :
    RoundTrip.Statement (.dfltRelease channel) := roundTrip_of_none rfl

/-- FAULT_CLEAR_PULSE_END. -/
theorem RoundTrip.faultClearPulseEnd (channel : Fin 4) :
    RoundTrip.Statement (.faultClearPulseEnd channel) := roundTrip_of_none rfl

/-- VALVE_LINES_PLACED. -/
theorem RoundTrip.valveLinesPlaced :
    RoundTrip.Statement (.valveLinesPlaced) := roundTrip_of_none rfl

/-- CUE_FRAME. -/
theorem RoundTrip.cueFrame :
    RoundTrip.Statement (.cueFrame) := roundTrip_of_none rfl

/-- WRITE_ENTRY_POINT_RECORD. -/
theorem RoundTrip.writeEntryPointRecord (r : Request) :
    RoundTrip.Statement (.writeEntryPointRecord r) := roundTrip_of_write rfl rfl rfl

/-- WRITE_ENTRY_POLL_ENTRY. -/
theorem RoundTrip.writeEntryPollEntry (r : Request) :
    RoundTrip.Statement (.writeEntryPollEntry r) := roundTrip_of_write rfl rfl rfl

/-- WRITE_ENTRY_FIELD_PORT_SETTING. -/
theorem RoundTrip.writeEntryFieldPortSetting (r : Request) :
    RoundTrip.Statement (.writeEntryFieldPortSetting r) := roundTrip_of_write rfl rfl rfl

/-- WRITE_ENTRY_SATURATION_KNOT. -/
theorem RoundTrip.writeEntrySaturationKnot (r : Request) :
    RoundTrip.Statement (.writeEntrySaturationKnot r) := roundTrip_of_write rfl rfl rfl

/-- WRITE_ENTRY_FOG_CONFIGURATION. -/
theorem RoundTrip.writeEntryFogConfiguration (r : Request) :
    RoundTrip.Statement (.writeEntryFogConfiguration r) := roundTrip_of_write rfl rfl rfl

/-- WRITE_ENTRY_HEAT_PLANT_PART. -/
theorem RoundTrip.writeEntryHeatPlantPart (r : Request) :
    RoundTrip.Statement (.writeEntryHeatPlantPart r) := roundTrip_of_write rfl rfl rfl

/-- WRITE_ENTRY_LIGHTING_LOAD. -/
theorem RoundTrip.writeEntryLightingLoad (r : Request) :
    RoundTrip.Statement (.writeEntryLightingLoad r) := roundTrip_of_write rfl rfl rfl

/-- WRITE_ENTRY_VALVE_CONFIGURATION. -/
theorem RoundTrip.writeEntryValveConfiguration (r : Request) :
    RoundTrip.Statement (.writeEntryValveConfiguration r) := roundTrip_of_write rfl rfl rfl

/-- WRITE_ENTRY_PROFILE. -/
theorem RoundTrip.writeEntryProfile (r : Request) :
    RoundTrip.Statement (.writeEntryProfile r) := roundTrip_of_write rfl rfl rfl

/-- WRITE_ENTRY_CUE_RECORD. -/
theorem RoundTrip.writeEntryCueRecord (r : Request) :
    RoundTrip.Statement (.writeEntryCueRecord r) := roundTrip_of_write rfl rfl rfl

/-- WRITE_ENTRY_SPAN_ENTRY. -/
theorem RoundTrip.writeEntrySpanEntry (r : Request) :
    RoundTrip.Statement (.writeEntrySpanEntry r) := roundTrip_of_write rfl rfl rfl

/-- WRITE_ENTRY_SCENE_LEVEL. -/
theorem RoundTrip.writeEntrySceneLevel (r : Request) :
    RoundTrip.Statement (.writeEntrySceneLevel r) := roundTrip_of_write rfl rfl rfl

/-- WRITE_ENTRY_CAPTURE_DESCRIPTOR. -/
theorem RoundTrip.writeEntryCaptureDescriptor (r : Request) :
    RoundTrip.Statement (.writeEntryCaptureDescriptor r) := roundTrip_of_write rfl rfl rfl

/-- WRITE_ENTRY_NOTICE_LEVEL. -/
theorem RoundTrip.writeEntryNoticeLevel (r : Request) :
    RoundTrip.Statement (.writeEntryNoticeLevel r) := roundTrip_of_write rfl rfl rfl

/-- READ_ENTRY. -/
theorem RoundTrip.readEntry (r : Request) :
    RoundTrip.Statement (.readEntry r) := roundTrip_of_read rfl rfl rfl rfl

/-- READ_STATUS. -/
theorem RoundTrip.readStatus (r : Request) :
    RoundTrip.Statement (.readStatus r) := roundTrip_of_read rfl rfl rfl rfl

/-- UNKNOWN_REQUEST. -/
theorem RoundTrip.unknownRequest (source : Byte) (body : List Byte) :
    RoundTrip.Statement (.unknownRequest source body) := by
  intro h source' body' e
  simp only [encodeRequest, Option.some.injEq, Prod.mk.injEq] at e
  obtain ⟨rfl, rfl⟩ := e
  simp only [Instr.wf, Bool.and_eq_true, decide_eq_true_eq, Bool.not_eq_true'] at h
  refine ⟨?_, h.1⟩
  unfold decodeRequest
  split
  · rw [decodeKnown_of_unknown h.2]
  · rfl

/-- VALIDATE. -/
theorem RoundTrip.validate (r : Request) :
    RoundTrip.Statement (.validate r) := roundTrip_of_coded rfl rfl rfl

/-- SELECT_PROFILE. -/
theorem RoundTrip.selectProfile (r : Request) :
    RoundTrip.Statement (.selectProfile r) := roundTrip_of_coded rfl rfl rfl

/-- GO. -/
theorem RoundTrip.go (r : Request) :
    RoundTrip.Statement (.go r) := roundTrip_of_coded rfl rfl rfl

/-- STOP. -/
theorem RoundTrip.stop (r : Request) :
    RoundTrip.Statement (.stop r) := roundTrip_of_coded rfl rfl rfl

/-- HOME_VALVE. -/
theorem RoundTrip.homeValve (r : Request) :
    RoundTrip.Statement (.homeValve r) := roundTrip_of_coded rfl rfl rfl

/-- CLEAR_VALVE_FAULT. -/
theorem RoundTrip.clearValveFault (r : Request) :
    RoundTrip.Statement (.clearValveFault r) := roundTrip_of_coded rfl rfl rfl

/-- ENABLE_CAPTURE. -/
theorem RoundTrip.enableCapture (r : Request) :
    RoundTrip.Statement (.enableCapture r) := roundTrip_of_coded rfl rfl rfl

/-- DISABLE_CAPTURE. -/
theorem RoundTrip.disableCapture (r : Request) :
    RoundTrip.Statement (.disableCapture r) := roundTrip_of_coded rfl rfl rfl

/-- SET_BOILER_LIMIT. -/
theorem RoundTrip.setBoilerLimit (r : Request) :
    RoundTrip.Statement (.setBoilerLimit r) := roundTrip_of_coded rfl rfl rfl

/-- SET_ALARM_THRESHOLD. -/
theorem RoundTrip.setAlarmThreshold (r : Request) :
    RoundTrip.Statement (.setAlarmThreshold r) := roundTrip_of_coded rfl rfl rfl

/-- SET_RATE. -/
theorem RoundTrip.setRate (r : Request) :
    RoundTrip.Statement (.setRate r) := roundTrip_of_coded rfl rfl rfl

/-- SET_SEARCH. -/
theorem RoundTrip.setSearch (r : Request) :
    RoundTrip.Statement (.setSearch r) := roundTrip_of_coded rfl rfl rfl

/-- CLEAR_COUNTS. -/
theorem RoundTrip.clearCounts (r : Request) :
    RoundTrip.Statement (.clearCounts r) := roundTrip_of_coded rfl rfl rfl

/-- CLEAR_RESET_CAUSE. -/
theorem RoundTrip.clearResetCause (r : Request) :
    RoundTrip.Statement (.clearResetCause r) := roundTrip_of_coded rfl rfl rfl

/-- RESTART. -/
theorem RoundTrip.restart (r : Request) :
    RoundTrip.Statement (.restart r) := roundTrip_of_coded rfl rfl rfl

/-- POWER_ON. -/
theorem RoundTrip.powerOn :
    RoundTrip.Statement (.powerOn) := roundTrip_of_none rfl

/-- LINE_RESET. -/
theorem RoundTrip.lineReset :
    RoundTrip.Statement (.lineReset) := roundTrip_of_none rfl

/-- WORK_START. -/
theorem RoundTrip.workStart (straps : BitVec 7) :
    RoundTrip.Statement (.workStart straps) := roundTrip_of_none rfl

end Sys2Proof.Laws
end

