-- ==== Sys2Proof/Laws/Points.lean ====
section
/-! SUPPORT. What the operations on the point table, the valve channels and the playbacks come to, place by
place. -/

namespace Sys2Proof.Machine

/-! ### Points -/

/-- A change of one point's runtime, read at any point. -/
@[simp] theorem State.changeRuntime_runtime (s : State) (i j : Fin 256)
    (f : PointRuntime → PointRuntime) :
    (s.changeRuntime i f).runtime j = if i = j then f (s.runtime i) else s.runtime j := by
  simp only [State.changeRuntime, PointTable.changeRuntime, State.runtime, State.setPtw_ptw,
    vector_get_change]
  split <;> rfl

/-- A change of one point's runtime leaves every configuration alone. -/
@[simp] theorem State.changeRuntime_config (s : State) (i j : Fin 256)
    (f : PointRuntime → PointRuntime) : (s.changeRuntime i f).config j = s.config j := by
  simp only [State.changeRuntime, PointTable.changeRuntime, State.config, State.setPtw_ptw,
    vector_get_change]
  split <;> simp_all

/-- A change of one point's runtime leaves the pending output list alone. -/
@[simp] theorem State.changeRuntime_pendingOut (s : State) (i : Fin 256)
    (f : PointRuntime → PointRuntime) :
    (s.changeRuntime i f).ptw.pendingOut = s.ptw.pendingOut := rfl

/-- The point that holds a key is in use and has that station and channel (R46). -/
theorem PointTable.byKey_some {t : PointTable} {station channel : Nat} {i : Fin 256}
    (h : t.byKey station channel = some i) :
    t.points[i].config.inUse = true ∧ t.points[i].config.station = station
      ∧ t.points[i].config.channel = channel := by
  have := (firstIndex_some h).1
  simp only [Bool.and_eq_true, beq_iff_eq] at this
  exact ⟨this.1.1, this.1.2, this.2⟩

/-- No point in use has a key that no point holds (R46). -/
theorem PointTable.byKey_none {t : PointTable} {station channel : Nat}
    (h : t.byKey station channel = none) (i : Fin 256) (hu : t.points[i].config.inUse = true) :
    ¬(t.points[i].config.station = station ∧ t.points[i].config.channel = channel) := by
  have := firstIndex_none.mp h i
  rintro ⟨h1, h2⟩
  rw [hu, h1, h2] at this
  simp at this

/-- The point that holds a role is in use and has that role (R45). -/
theorem PointTable.holder_some {t : PointTable} {role : Nat} {i : Fin 256}
    (h : t.holder role = some i) :
    t.points[i].config.inUse = true ∧ t.points[i].config.role = role := by
  have := (firstIndex_some h).1
  simp only [Bool.and_eq_true, beq_iff_eq] at this
  exact this

/-- A point that waits already joins the pending output list no second time (R53). -/
theorem PointTable.join_of_pending {t : PointTable} {i : Fin 256}
    (h : t.points[i].runtime.pendingFlag = true) : t.join i = t := by
  unfold PointTable.join; rw [if_pos h]

/-- A write to a role that no point holds is lost (R45). -/
theorem State.writeRole_of_unassigned {s : State} {role : Nat} (h : s.ptw.holder role = none)
    (v : Int) : s.writeRole role v = s := by
  unfold State.writeRole; rw [h]

/-! ### Valve channels -/

/-- A valve channel set at one place, read at any. -/
theorem State.setValve_valve (s : State) (c d : Fin 4) (v : Valve) :
    (s.setValve c v).valve d = if c = d then v else s.valve d := by
  simp only [State.setValve, State.valve, State.setVdu_vdu, vector_get_set]

/-- A valve channel set at its place. -/
@[simp] theorem State.setValve_valve_same (s : State) (c : Fin 4) (v : Valve) :
    (s.setValve c v).valve c = v := by
  rw [State.setValve_valve, if_pos rfl]

/-- A valve channel set twice. -/
@[simp] theorem State.setValve_setValve (s : State) (c : Fin 4) (v w : Valve) :
    (s.setValve c v).setValve c w = s.setValve c w := by
  simp [State.setValve, State.setVdu]

/-! ### Playbacks -/

/-- A playback set is the one read. -/
@[simp] theorem State.setPlayback_playback_same (s : State) (b : PlaybackId) (p : Playback) :
    (s.setPlayback b p).playback b = p := by
  cases b <;> rfl

/-- A playback set leaves the other alone. -/
theorem State.setPlayback_playback_other (s : State) {b d : PlaybackId} (h : b ≠ d)
    (p : Playback) : (s.setPlayback b p).playback d = s.playback d := by
  cases b <;> cases d <;> first | rfl | exact absurd rfl h

/-! ### Capture channels -/

/-- A channel that is not active, or whose source is another, takes no sample (9.2). -/
theorem State.sampleChannel_of_other {s : State} {o : Origin} {i : Fin 8}
    (h : s.tcu.channels[i].active = false ∨ s.tcu.channels[i].descriptor.hasSource o = false)
    (x : Sample) : s.sampleChannel o x i = s := by
  have hc : (s.tcu.channels[i].active && s.tcu.channels[i].descriptor.hasSource o) = false := by
    rcases h with h | h <;> rw [h]
    · rfl
    · exact Bool.and_false _
  unfold State.sampleChannel
  exact if_neg (by rw [hc]; exact Bool.false_ne_true)

end Sys2Proof.Machine
end

