-- ==== Sys2Proof/Laws/Ranges.lean ====
section
/-! SUPPORT. The checks of record writes, range by range (R42, R127, R150, R160), and the checks of an
ENABLE_CAPTURE (R163): what a proof about a write or an invariant of the settings cites. -/

namespace Sys2Proof.Machine

/-- R42: the checks of a point write, range by range. -/
theorem PointConfig.ok_iff (c : PointConfig) : c.ok = true ↔
    c.direction ≤ 1 ∧ 1 ≤ c.station ∧ c.station ≤ 126 ∧ c.channel ≤ 255
    ∧ c.spanLow ≤ c.spanHigh ∧ c.limitLow ≤ c.limitHigh ∧ c.deadband ≤ 32767
    ∧ 1 ≤ c.staleAfter ∧ c.staleAfter ≤ 3600 ∧ c.holdTime ≤ 3600 ∧ c.forward ≤ 1
    ∧ c.overrideTime ≤ 3600 ∧ 1 ≤ c.refresh ∧ c.refresh ≤ 600
    ∧ (c.role = 0 ∨ c.direction = 0 ∧ 1 ≤ c.role ∧ c.role ≤ 27
      ∨ c.direction = 1 ∧ 28 ≤ c.role ∧ c.role ≤ 38) := by
  simp only [PointConfig.ok, PointConfig.roleOk, Bool.and_eq_true, Bool.or_eq_true,
    decide_eq_true_eq, beq_iff_eq]
  tauto

/-- R150: the checks of a profile write, range by range. -/
theorem Profile.ok_iff (p : Profile) : p.ok = true ↔
    -2000 ≤ p.subfloorSetpoint ∧ p.subfloorSetpoint ≤ 2000 ∧ p.subfloorHeat ≤ 20000
    ∧ -500 ≤ p.warn ∧ p.warn ≤ 1000 ∧ -500 ≤ p.act ∧ p.act ≤ 1000 ∧ -500 ≤ p.fog ∧ p.fog ≤ 1000
    ∧ 0 ≤ p.hysteresis ∧ p.hysteresis ≤ 500 ∧ 1 ≤ p.actStage ∧ p.actStage ≤ 4 ∧ p.stageCap ≤ 4
    ∧ p.blindStage ≤ 4 ∧ p.occupied ≤ 3000 ∧ p.unoccupied ≤ 3000 ∧ p.mask ≤ 255
    ∧ p.boilerLevel ≤ 2 ∧ p.meltEnable ≤ 1 ∧ p.meltHeat ≤ 20000 ∧ p.startCue ≤ 255
    ∧ p.autoGo ≤ 1 ∧ p.act < p.warn ∧ p.fog < p.act ∧ p.actStage ≤ p.stageCap := by
  simp only [Profile.ok, within, Bool.and_eq_true, decide_eq_true_eq, and_assoc]

/-- R127: the checks of a cue record write, range by range, of the fields that its form, its level source and
its update mode use. -/
theorem CueRecord.ok_iff (c : CueRecord) : c.ok = true ↔
    c.next ≤ 255 ∧ c.holdAfter ≤ 1 ∧ c.notify ≤ 1 ∧ c.parkEnable ≤ 1 ∧ c.parkValue ≤ 255
    ∧ c.fade ≤ 255
    ∧ (c.form = 0 ∧ c.start ≤ 255 ∧ 1 ≤ c.width ∧ c.width ≤ 256 ∧ c.repeats ≤ 15
        ∧ 1 ≤ c.stride ∧ c.stride ≤ 255
      ∨ (c.form = 1 ∨ c.form = 2) ∧ c.base ≤ 255 ∧ c.spanIndex ≤ 511 ∧ 1 ≤ c.spanCount
        ∧ c.spanCount ≤ 64)
    ∧ (c.source = 0 ∧ c.flat ≤ 255 ∨ c.source = 1 ∧ c.sceneIndex ≤ 4095)
    ∧ (c.update = 0 ∨ c.update = 1 ∧ -128 ≤ c.step ∧ c.step ≤ 127
      ∨ c.update = 2 ∧ -127 ≤ c.step ∧ c.step ≤ 127) := by
  have form : c.formOk = true ↔ (c.form = 0 ∧ c.start ≤ 255 ∧ 1 ≤ c.width ∧ c.width ≤ 256
        ∧ c.repeats ≤ 15 ∧ 1 ≤ c.stride ∧ c.stride ≤ 255
      ∨ (c.form = 1 ∨ c.form = 2) ∧ c.base ≤ 255 ∧ c.spanIndex ≤ 511 ∧ 1 ≤ c.spanCount
        ∧ c.spanCount ≤ 64) := by
    unfold CueRecord.formOk; split <;> simp_all [and_assoc]
  have source : c.sourceOk = true ↔
      (c.source = 0 ∧ c.flat ≤ 255 ∨ c.source = 1 ∧ c.sceneIndex ≤ 4095) := by
    unfold CueRecord.sourceOk; split <;> simp_all
  have step : c.stepOk = true ↔ (c.update = 0 ∨ c.update = 1 ∧ -128 ≤ c.step ∧ c.step ≤ 127
      ∨ c.update = 2 ∧ -127 ≤ c.step ∧ c.step ≤ 127) := by
    unfold CueRecord.stepOk; split <;> simp_all
  simp only [CueRecord.ok, Bool.and_eq_true, decide_eq_true_eq, form, source, step]
  constructor
  · rintro ⟨⟨⟨⟨⟨⟨⟨⟨hn, hh⟩, hd⟩, hf⟩, hs⟩, he⟩, hv⟩, ht⟩, hu⟩
    exact ⟨hn, hh, hd, he, hv, ht, hf, hs, hu⟩
  · rintro ⟨hn, hh, hd, he, hv, ht, hf, hs, hu⟩
    exact ⟨⟨⟨⟨⟨⟨⟨⟨hn, hh⟩, hd⟩, hf⟩, hs⟩, he⟩, hv⟩, ht⟩, hu⟩

/-- R160, R178: the checks of a descriptor write, range by range (for the number of Q_f log 24). -/
theorem Descriptor.ok_iff (d : Descriptor) : d.ok = true ↔
    (d.sourceKind = 0 ∧ d.sourceNumber ≤ 255 ∨ d.sourceKind = 3 ∧ d.sourceNumber = 0
      ∨ (d.sourceKind = 1 ∨ d.sourceKind = 2 ∨ d.sourceKind = 4 ∨ d.sourceKind = 5)
        ∧ d.sourceNumber ≤ 3)
    ∧ d.base ≤ 4095 ∧ 1 ≤ d.length ∧ d.length ≤ 4096 ∧ d.base + d.length ≤ 4096 ∧ 1 ≤ d.count
    ∧ d.count ≤ 4096 ∧ d.pointerMode ≤ 1 ∧ d.notify ≤ 1
    ∧ (d.mode = 0 ∧ d.stopOnAlarm ≤ 1 ∨ d.mode = 1 ∧ d.count ≤ d.length
      ∧ (d.triggerKind = 0 ∧ d.triggerNumber ≤ 255 ∨ d.triggerKind = 1 ∧ d.triggerNumber ≤ 3)) := by
  have source : d.sourceOk = true ↔ (d.sourceKind = 0 ∧ d.sourceNumber ≤ 255
      ∨ d.sourceKind = 3 ∧ d.sourceNumber = 0
      ∨ (d.sourceKind = 1 ∨ d.sourceKind = 2 ∨ d.sourceKind = 4 ∨ d.sourceKind = 5)
        ∧ d.sourceNumber ≤ 3) := by
    unfold Descriptor.sourceOk; split <;> simp_all
  have mode : (d.mode ≤ 1 ∧ (if d.ring then d.ringOk else decide (d.stopOnAlarm ≤ 1)) = true) ↔
      (d.mode = 0 ∧ d.stopOnAlarm ≤ 1 ∨ d.mode = 1 ∧ d.count ≤ d.length
        ∧ (d.triggerKind = 0 ∧ d.triggerNumber ≤ 255 ∨ d.triggerKind = 1 ∧ d.triggerNumber ≤ 3)) := by
    unfold Descriptor.ring Descriptor.ringOk
    rcases (by omega : d.mode = 0 ∨ d.mode = 1 ∨ 1 < d.mode) with h | h | h
    · simp [h]
    · simp [h]
    · have h0 : d.mode ≠ 0 := by omega
      have h1 : d.mode ≠ 1 := by omega
      have h2 : ¬ d.mode ≤ 1 := by omega
      simp [h0, h1, h2]
  simp only [Descriptor.ok, Bool.and_eq_true, decide_eq_true_eq, source, ← mode]
  constructor
  · rintro ⟨⟨⟨⟨⟨⟨⟨⟨⟨⟨hs, hb⟩, hl⟩, hl'⟩, he⟩, hm⟩, hc⟩, hc'⟩, hp⟩, hn⟩, hr⟩
    exact ⟨hs, hb, hl, hl', he, hc, hc', hp, hn, hm, hr⟩
  · rintro ⟨hs, hb, hl, hl', he, hc, hc', hp, hn, hm, hr⟩
    exact ⟨⟨⟨⟨⟨⟨⟨⟨⟨⟨hs, hb⟩, hl⟩, hl'⟩, he⟩, hm⟩, hc⟩, hc'⟩, hp⟩, hn⟩, hr⟩

/-- R163, check 2: a point source is in use, and for RING a point trigger is. -/
theorem State.captureSourceOk_iff (s : State) (d : Descriptor) : s.captureSourceOk d = true ↔
    (d.sourceKind = 0 → ∃ p : Fin 256, p.val = d.sourceNumber ∧ (s.config p).inUse = true)
    ∧ (d.mode = 1 → d.triggerKind = 0 →
      ∃ p : Fin 256, p.val = d.triggerNumber ∧ (s.config p).inUse = true) := by
  have used : ∀ n : Nat, (if h : n < 256 then s.ptw.points[n].config.inUse else false) = true ↔
      ∃ p : Fin 256, p.val = n ∧ (s.config p).inUse = true := by
    intro n
    split
    · next h =>
      exact ⟨fun hu => ⟨⟨n, h⟩, rfl, hu⟩, fun ⟨p, hp, hu⟩ => by subst hp; exact hu⟩
    · next h => simp only [Bool.false_eq_true, false_iff]; rintro ⟨p, hp, -⟩; exact h (hp ▸ p.isLt)
  simp only [State.captureSourceOk, Descriptor.ring, Bool.and_eq_true, Bool.or_eq_true, used,
    bne_iff_ne, Bool.not_eq_true', beq_eq_false_iff_ne, or_assoc]
  tauto

/-- 9.1: two regions share a place. -/
theorem Descriptor.overlaps_iff (d e : Descriptor) :
    d.overlaps e = true ↔ d.base < e.base + e.length ∧ e.base < d.base + d.length := by
  simp [Descriptor.overlaps]

end Sys2Proof.Machine
end

