-- ==== Sys2Proof/Laws/Receive.lean ====
section
/-! SUPPORT. What the reception of characters and telegrams comes to (1.5, 2.3). -/

namespace Sys2Proof.Machine

/-- The note of an answer from the awaited station, and the port after it (R27, R30). -/
theorem FieldPort.note_of_awaited {f : FieldPort} {src : Byte} {w : Window} (h : f.window = some w)
    (h' : w.awaited = some src) :
    f.note src = (if w.byPoll then .inPollWindow else .inRelayWindow,
      if w.entryGone then { f with window := none }
      else { f with window := none }.changeEntry src.toNat PollEntry.answered) := by
  unfold FieldPort.note; rw [h]; simp only; rw [if_pos h']

/-- The note of any other telegram, and the port after it (R30, R32). -/
theorem FieldPort.note_of_other {f : FieldPort} {src : Byte}
    (h : ∀ w, f.window = some w → w.awaited ≠ some src) :
    f.note src = (.notInWindow,
      f.changeEntry src.toNat (fun e => if e.state = .silent then e.answered else e)) := by
  unfold FieldPort.note; split
  · next w hw => rw [if_neg (h w hw)]
  · rfl

/-- Marking the end of a character leaves the receiver of the port alone. -/
@[simp] theorem State.markEnd_receiver (s : State) (p : Port) :
    ((s.markEnd p).line p).receiver = (s.line p).receiver := by
  cases p <;> rfl

/-- What a character does while the receiver works and its gap timer has not expired before the start bit:
the clock moves, its end is marked, and the receiver state decides (R2, R13, R14; log 9). -/
theorem exec_characterReceived {s : State} {p : Port} {x : List Bool} {skipped : Nat} {c : Character}
    (h1 : s.hold = .working) (h2 : s.receiverOff p = false) (h3 : takeCharacter x = some (skipped, c))
    (hg : (s.line p).gapBefore ((s.line p).charEnd s.now skipped) = false) :
    exec (.characterReceived p x) s = .next ((((s.setNow
      ((s.line p).charEnd s.now skipped)).markEnd p).character p c).arbitrate) := by
  show s.work (State.characterReceived · p x) = _
  rw [State.work_of_working h1]
  apply next_arbitrate_congr
  have hm : max s.now ((s.line p).charEnd s.now skipped) = (s.line p).charEnd s.now skipped := by
    unfold Line.charEnd; omega
  unfold State.characterReceived State.comesAt
  rw [h2, h3]
  simp only [hg, hm, Bool.false_eq_true, if_false]

/-- The character that completes a telegram whose check agrees hands the telegram on (R14, R15). -/
theorem exec_completes_telegram {s : State} {p : Port} {x : List Bool} {skipped : Nat} {c : Character}
    {got : List Byte} (h1 : s.hold = .working) (h2 : s.receiverOff p = false)
    (h3 : takeCharacter x = some (skipped, c))
    (hg : (s.line p).gapBefore ((s.line p).charEnd s.now skipped) = false)
    (h4 : c.stop = true) (h5 : c.mark = false)
    (h6 : (s.line p).receiver = .assemble got) (h7 : got.length = 3 → c.data.toNat ≤ 40)
    (h8 : wholeTelegram (got ++ [c.data]) = true) (h9 : checkAgrees (got ++ [c.data]) = true) :
    exec (.characterReceived p x) s = .next (((((s.setNow
      ((s.line p).charEnd s.now skipped)).markEnd p).setReceiver p
        .hunt).goodTelegram p (telegramOf (got ++ [c.data]))).arbitrate) := by
  have hl : ¬(got.length = 3 ∧ 40 < c.data.toNat) := by omega
  have hr : (((s.setNow ((s.line p).charEnd s.now skipped)).markEnd p).line p).receiver
      = .assemble got := by
    rw [State.markEnd_receiver]; cases p <;> exact h6
  rw [exec_characterReceived h1 h2 h3 hg]
  apply next_arbitrate_congr
  unfold State.character
  simp only [hr, h5, h4]
  unfold State.extend
  rw [if_neg hl, h8]
  unfold State.completeTelegram
  rw [h9]
  rfl

end Sys2Proof.Machine
end

