-- ==== Sys2Proof/Tests/Slice0.lean ====
section
/-! SUPPORT. Tests: each well-formedness check refuses an ill-formed command, one or two steps of each
command against the figures of the spec, and for each statement that has hypotheses a state and operands
that meet them, clause by clause at the bounds of their ranges. -/

namespace Sys2Proof.Tests

open Sys2Proof Sys2Proof.Machine

set_option Elab.async false

/-! ### Small states -/

/-- The part as after reset, at work, all lines still. -/
def working : State := { State.reset with hold := .working }

/-- The state after a command. -/
def ran (i : Instr) (s : State) : State :=
  match exec i s with
  | .next t => t
  | .fault _ => s
  | .refused _ => s

theorem exec_ran (c : Instr) (s : State) : exec c s = .next (ran c s) := by
  obtain ⟨u, e⟩ := exec_ends_with_arbitrate c s
  unfold ran; rw [e]

/-- The operands of a request from station 200 with tag 7. -/
def request (operands : List Nat) : Request := ⟨200#8, 7#8, operands.map byteOf⟩

/-- The bytes of the REPLY in the slot. -/
def replyBytes (s : State) : List Nat :=
  match s.mgr.slot with
  | some t => t.body.map BitVec.toNat
  | none => []

/-- The status of the REPLY in the slot. -/
def status (s : State) : Nat := (replyBytes s).getD 2 255

/-- The subject and detail of a pending notice, with its count. -/
def notice (s : State) (x : Source) : Nat × Nat × Int :=
  let r := s.ntu.records[x.number]
  (r.count, r.subject, r.detail)

/-- A transmission at divisor 3 from time 0 on that ends at a moment. -/
def sending (kind : SendKind) (t : Telegram) (endAt : Nat) : Sending := ⟨t, kind, t.chars, 0, 3, endAt⟩

/-- The supervisor link busy, so that notices stay in their records. -/
def busyLink (s : State) : State :=
  s.setSupervisor { s.supervisor with line := { s.supervisor.line with
    sending := some (sending .notice ⟨127#8, 126#8, 18#8, []⟩ 1000) } }

/-- The part with a point. -/
def withPoint (i : Fin 256) (p : Point) (s : State) : State :=
  s.setPtw { s.ptw with points := s.ptw.points.set i p }

/-- The humidity point of 3.8: station 42, channel 3, FOG_RH(1), limits 20.0 to 85.0 %. -/
def humidity : PointConfig :=
  ⟨true, 0, 42, 3, 6, 0, 1000, 200, 850, 30, 30, 60, 700, 0, 0, 1⟩

/-- The zone valve of 3.9: station 31, channel 2, override time 600 s, refresh interval 60 s. -/
def zoneValve : PointConfig := ⟨true, 1, 31, 2, 32, 0, 0, 0, 0, 0, 1, 0, 0, 0, 600, 60⟩

/-- A fresh point. -/
def fresh (c : PointConfig) : Point := ⟨c, .fresh c.fallback⟩

/-- The part with point 17 of 3.8 as it stands after readings of 62.5 %. -/
def live17 : State := withPoint 17 ⟨humidity, { PointRuntime.fresh 700 with
  raw := some 625, seen := 625, watch := .live, lastArrival := some 0 }⟩ (busyLink working)

/-- The part with point 60 of 3.9, sent at time 0. -/
def sent60 : State := withPoint 60 ⟨zoneValve, { PointRuntime.fresh 0 with
  autoValue := some 333, toSend := some 333, lastSent := some 333, lastSending := some 0 }⟩
    (busyLink working)

/-- The part with channel 0 of the valve drive unit in a given condition. -/
def withValve (v : Valve) (s : State) : State :=
  (s.setValve 0 v).setVdu { (s.setValve 0 v).vdu with linesPlaced := true }

/-- A channel of travel 480 at 20 ms a step, settle time 0.5 s, 8 seat steps, with its notice flag. -/
def drive (state : ValveState) (position target : Nat) : Valve :=
  { Valve.powerOn false false false with
      config := ⟨480, 20, 5, 8, false, true⟩, state := state, position := position,
      target := target }

/-- A cue that fades channels 0 and 1 to level 200 in 0.1 s, without hold after, next cue 1. -/
def plainCue : CueRecord := { CueRecord.zero with next := 1, width := 2, stride := 1, flat := 200, fade := 1 }

/-- The part with cue 0 as above, and cue 1 still all zero, which fails its start check. -/
def withCue (c : CueRecord) (s : State) : State :=
  s.setCue { s.cue with cues := s.cue.cues.set 0 c }

/-- A LINEAR descriptor of the budget, places 10 to 13, two samples, with its notice flag. -/
def linear : Descriptor := ⟨3, 0, 10, 4, 0, 2, 0, 0, 0, 0, 1⟩

/-- The RING descriptor of 9.9: margin 1, places 1000 to 1003, count 3, trigger fog zone 1. -/
def ring : Descriptor := ⟨2, 1, 1000, 4, 1, 3, 0, 0, 1, 1, 1⟩

/-- The part with capture channel 2 in a given condition. -/
def withChannel (c : CaptureChannel) (s : State) : State :=
  s.setTcu { s.tcu with channels := s.tcu.channels.set 2 c }

/-- A valid profile: the thresholds of 4.3, boiler level 2, start cue 3. -/
def hockey : Profile := ⟨100, 300, 300, 150, 50, 25, 2, 4, 1, 1600, 800, 15, 2, 1, 2000, 3, 0, true⟩

/-- The part with profile 2 valid. -/
def withProfile (s : State) : State :=
  s.setPrf { s.prf with profiles := s.prf.profiles.set 2 hockey }

/-! ### Well-formedness: each check refuses -/

/-- A body of 41 bytes fits no telegram (R5): 38 operand bytes after code, tag and table code. -/
theorem test_wf_write_too_long :
    (Instr.writeEntryPointRecord ⟨1#8, 0#8, .replicate 38 0#8⟩).wf = false := by decide

/-- 39 operand bytes after code and tag are one too many. -/
theorem test_wf_request_too_long : (Instr.go ⟨1#8, 0#8, .replicate 39 0#8⟩).wf = false := by decide

/-- READ_ENTRY of table 14 is no READ_ENTRY row (R178). -/
theorem test_wf_read_table : (Instr.readEntry (request [14, 0])).wf = false := by decide

/-- READ_STATUS of unit 13 is no READ_STATUS row (R180). -/
theorem test_wf_read_unit : (Instr.readStatus (request [13, 0])).wf = false := by decide

/-- READ_STATUS without a unit is no READ_STATUS row. -/
theorem test_wf_read_nothing : (Instr.readStatus (request [])).wf = false := by decide

/-- A request that R8 knows is no UNKNOWN_REQUEST. -/
theorem test_wf_known : (Instr.unknownRequest 1#8 [6#8, 0#8]).wf = false := by decide

/-- An unknown body of 41 bytes fits no telegram. -/
theorem test_wf_unknown_too_long :
    (Instr.unknownRequest 1#8 (.replicate 41 0#8)).wf = false := by decide

/-- The longest body of all is well formed: a cue record, 3 + 24 bytes, and a body of 40 bytes. -/
theorem test_wf_longest : (Instr.unknownRequest 1#8 (.replicate 40 0#8)).wf = true := by decide

/-! ### Line and traffic -/

/-- R4: the test value of the check. -/
theorem test_check_value :
    crc16 ([0x31, 0x32, 0x33, 0x34, 0x35, 0x36, 0x37, 0x38, 0x39].map byteOf) = 0x29B1#16 := by
  decide +kernel

/-- R1: 2Ah with its mark bit: start 0, data 01010100 least significant first, mark 1, stop 1. -/
theorem test_line_bits : lineBits 0x2A#8 true = 0b11001010100#11 := by decide

/-- R2: one disturbed sample of three does not change a bit. -/
theorem test_majority :
    takeCharacter ((samplesOf (lineBits 0x2A#8 true)).set (8 + 22) true)
      = some (8, ⟨0x2A#8, true, true⟩) := by decide +kernel

/-- R2: five low samples are no start bit; the character 20 samples later is taken. -/
theorem test_false_start :
    takeCharacter (true :: List.replicate 5 false ++ List.replicate 12 true
      ++ samplesOf (lineBits 0x2A#8 true)) = some (26, ⟨0x2A#8, true, true⟩) := by decide +kernel

/-- R14: a marked character in HUNT begins a telegram; after eight idle samples its stop bit ends 46 µs on. -/
theorem test_character_received :
    let s := ran (.characterReceived .plant (samplesOf (lineBits 5#8 true))) working
    s.plant.line.receiver = .assemble [5#8] ∧ s.now = 16 * 46 := by decide +kernel

/-- R2, R10: the character that follows without idle time ends 44 µs after the one before. -/
theorem test_character_follows :
    let s := ran (.characterReceived .plant (samplesOf (lineBits 6#8 false)))
      (ran (.characterReceived .plant (samplesOf (lineBits 5#8 true))) working)
    s.plant.line.receiver = .assemble [5#8, 6#8] ∧ s.now = 16 * 90 := by decide +kernel

/-- R1: the line rests at 1; 2Ah with its mark bit has its start bit and its data bit 1 on the line. -/
theorem test_transmit_line :
    let l := (working.plant.send 0 ⟨0x2A#8, 126#8, 1#8, []⟩ .poll).line
    working.plant.line.txLevel 0 = true ∧ l.txLevel 63 = false ∧ l.txLevel 64 = false
      ∧ l.txLevel 128 = true ∧ l.txLevel (9 * 64) = true := by decide +kernel

/-- 1.10: the fourth failure is a rate step to entry 1, divisor 3, in place of a count of 4. -/
theorem test_rate_step :
    let p := working.supervisor
    let s := ran (.characterReceived .supervisor (samplesOf 0#11))
      (working.setSupervisor { p with fails := 3 })
    s.supervisor.index = 1 ∧ s.supervisor.fails = 0 ∧ s.supervisor.line.divisor = 3
      ∧ s.supervisor.line.counts.framing = 1 := by decide +kernel

/-- 1.9: the gap timer abandons the telegram two character times, 88 µs, after the last character. -/
theorem test_gap_timer_expiry :
    let s := ran (.gapTimerExpiry .plant) (working.setReceiver .plant (.assemble [5#8, 0x2A#8]))
    s.plant.line.receiver = .hunt ∧ s.plant.line.counts.gap = 1 ∧ s.now = 16 * 88 := by decide +kernel

/-- R12: a field port becomes quiet two character times after its last character. -/
theorem test_port_quiet :
    let s := ran (.portQuiet .plant) working
    s.plant.quiet = true ∧ s.now = 16 * 88 := by decide +kernel

/-- R36: the quiet bowl port sends block 0 first of all, every block being due after power-on. -/
theorem test_first_levels :
    let s := ran (.portQuiet .bowl) working
    (s.bowl.line.sending.map Sending.telegram)
        = some ⟨127#8, 126#8, 4#8, .replicate 17 0#8⟩ ∧ s.cue.due[0] = false
      ∧ s.traffic.lastBlock = 0 := by decide +kernel

/-- R29: the end of a POLL opens a window of 5 ms. -/
theorem test_transmission_end :
    let s := ran (.transmissionEnd .plant) (working.setPlant { working.plant with
      line := { working.plant.line with
        sending := some (sending .poll ⟨42#8, 126#8, 1#8, []⟩ (16 * 264)) } })
    s.plant.window = some ⟨some 42#8, true, false, 16 * 5264⟩ ∧ s.plant.line.sending = none
      ∧ s.plant.nonPoll = 0 := by decide +kernel

/-- R31: the first miss of an UNPOLLED entry makes it SILENT and raises STATION_SILENT. -/
theorem test_reply_window_expiry :
    let f := { (busyLink working).bowl with
      polls := (busyLink working).bowl.polls.set 3 ⟨42, 10, .unpolled, 0, some 0⟩,
      window := some ⟨some 42#8, true, false, 5000⟩ }
    let s := ran (.replyWindowExpiry .bowl) ((busyLink working).setBowl f)
    s.bowl.polls[3] = ⟨42, 10, .silent, 1, some 0⟩ ∧ s.now = 5000
      ∧ notice s .stationSilent = (1, 42, 1) := by decide +kernel

/-- R27, R31: the awaited station is taken out of its slot and placed again while the window is open; the
expiry then changes no entry, and an answer closes the window and changes none. -/
theorem test_window_outlives_entry :
    let f := { (busyLink working).bowl with
      polls := (busyLink working).bowl.polls.set 3 ⟨42, 10, .answering, 0, some 0⟩,
      window := some ⟨some 42#8, true, false, 5000⟩ }
    let s := ((((busyLink working).setBowl f).storePoll .bowl 3 0 0).storePoll .bowl 3 42 10)
    let t := ran (.replyWindowExpiry .bowl) s
    s.bowl.window = some ⟨some 42#8, true, true, 5000⟩
      ∧ t.bowl.polls[3] = ⟨42, 10, .unpolled, 0, none⟩ ∧ t.bowl.window = none
      ∧ notice t .stationSilent = (0, 0, 0)
      ∧ (s.bowl.note 42#8).1 = .inPollWindow
      ∧ (s.bowl.note 42#8).2.polls[3] = ⟨42, 10, .unpolled, 0, none⟩ := by decide +kernel

/-- R28: a SILENT entry of interval 1.0 s comes due eight seconds after its last poll. -/
theorem test_poll_due :
    (ran (.pollDue .plant 0) (working.setPlant { working.plant with
      polls := working.plant.polls.set 0 ⟨42, 10, .silent, 3, some 0⟩ })).now = seconds 8 := by
  decide +kernel

/-- 3.8: a reading of 87.2 % takes the point to HIGH and raises POINT_LIMIT with detail 2. -/
theorem test_inbound_reading :
    let t : Telegram := ⟨126#8, 42#8, 2#8, [1, 3, 3, 104, 0].map byteOf⟩
    let s := ran .inboundTelegramTake (live17.setTraffic ⟨[⟨t, .plant, .notInWindow⟩], [], 15⟩)
    (s.runtime 17).limit = .high ∧ (s.runtime 17).seen = 872
      ∧ notice s .pointLimit = (1, 17, 2) ∧ s.traffic.relayUp = [] := by decide +kernel

/-- 3.9: a COMMAND of the supervisor to point 60 takes it under override for 600 s and goes down. -/
theorem test_inbound_command :
    let t : Telegram := ⟨31#8, 200#8, 3#8, [1, 2, 1, 144].map byteOf⟩
    let s := sent60.setBowl { sent60.bowl with
      polls := sent60.bowl.polls.set 4 ⟨31, 100, .answering, 0, some 0⟩ }
    let u := ran .inboundTelegramTake (s.setTraffic ⟨[⟨t, .supervisor, .notInWindow⟩], [], 15⟩)
    (u.runtime 60).overrideAt = some 600000 ∧ notice u .override = (1, 60, 1)
      ∧ u.bowl.relayDown = [t] := by decide +kernel

/-! ### Points -/

/-- 3.8: 30 s without an arrival the point becomes STALE, its seen value kept. -/
theorem test_stale_expiry :
    let s := ran (.staleExpiry 17) live17
    (s.runtime 17).watch = .stale ∧ (s.runtime 17).seen = 625 ∧ s.now = seconds 30
      ∧ notice s .pointStale = (1, 17, 42) := by decide +kernel

/-- 3.8: after its hold time of 60 s it becomes LOST at its fallback of 70.0 %. -/
theorem test_hold_expiry :
    let s := ran (.holdExpiry 17)
      (live17.changeRuntime 17 (fun r => { r with watch := .stale, staleSince := some 30000 }))
    (s.runtime 17).watch = .lost ∧ (s.runtime 17).seen = 700 ∧ s.now = seconds 90 := by
  decide +kernel

/-- 3.9: 60 s after its last sending the point waits in the pending output list again. -/
theorem test_refresh_expiry :
    let s := ran (.refreshExpiry 60) sent60
    s.ptw.pendingOut = [60] ∧ (s.runtime 60).pendingFlag = true ∧ s.now = seconds 60 := by
  decide +kernel

/-- 3.9: at the override expiry the auto value becomes the value to send. -/
theorem test_override_expiry :
    let s := ran (.overrideExpiry 60) (sent60.changeRuntime 60
      (fun r => { r with overrideAt := some 900000, autoValue := some 0 }))
    (s.runtime 60).toSend = some 0 ∧ s.ptw.pendingOut = [60] ∧ notice s .override = (1, 60, 3) := by
  decide +kernel

/-! ### Fog, heat, cues -/

/-- A rising table with the four knots of the worked case of 4.3. -/
def workedTable : Fcu := { Fcu.powerOn with
  knots := tabulate 41 (fun i =>
    if i.val < 18 then 40 * (i.val + 1)
    else ([872, 1037, 1230, 1449, 1705][i.val - 18]?).getD (300 * i.val)) }

/-- 4.3: T 14.20 °C, RH 62.5 % and T1 8.40 °C give e_s 1623, e 1014, Td 7.15 °C, M 1.25 °C and ACT. -/
theorem test_worked_dew_point :
    let z := workedTable.computeZone .fresh 1420 625 840 true
    z.satPressure = 1623 ∧ z.pressure = 1014 ∧ z.dewPoint = 715 ∧ z.margin = 125
      ∧ z.state = .act := by decide +kernel

/-- R73, R75, R76: without a valid table every zone is UNKNOWN at the blind stage 1, and the stage
counter steps to 1 at once after a reset. -/
theorem test_fog_evaluation :
    let s := ran .fogEvaluation working
    s.fcu.demand = 1 ∧ s.fcu.stage = 1 ∧ s.fcu.lastChange = some (seconds 10) ∧ s.fcu.fan = some 1
      ∧ s.fcu.starved = true := by decide +kernel

/-- The inputs of 5.10. -/
def worked : HeatInputs :=
  { heat := 3978, clamped := false, loop := .complete, budget := 3909, level := 2, boilerCap := 1000,
    call := true, subfloorDegraded := false, demands := #v[300, 2700, 1055, 2000],
    inService := .replicate 4 true, travels := .replicate 4 480, caps := #v[600, 3600, 1500, 2500],
    takesPart := .replicate 8 true, degraded := .replicate 8 false, gains := .replicate 8 0,
    zoneDemands := #v[255, 420, 380, 0, 0, 0, 0, 0], zoneMax := #v[600, 800, 800, 500, 0, 0, 0, 0] }

/-- 5.10: the grants, the zone grants, the targets and the zone valve outputs of the worked evening. -/
theorem test_worked_allocation :
    let r := worked.allocate
    r.classes.toList.map ClassResult.grant = [300, 2700, 907, 2]
      ∧ r.classes.toList.map ClassResult.target = [240, 360, 290, 0]
      ∧ (r.zones.toList.map ZoneResult.output).take 4 = [365, 451, 409, 0]
      ∧ r.rejected = 0 ∧ r.boilerCommand = 0 ∧ r.short = false := by decide +kernel

/-- 5.12: the boiler tops up class 1 by 1000 and its valve opens to 293. -/
theorem test_worked_top_up :
    let r := { worked with budget := 1500, demands := #v[300, 2700, 0, 0],
                           zoneDemands := .replicate 8 0 }.allocate
    r.boilerCommand = 1000 ∧ r.classes[1].target = 293 ∧ r.short = true := by decide +kernel

/-- R89, R90: with the loop unassigned Q is 0, the first evaluation takes it, and the next falls 2 s on. -/
theorem test_heat_evaluation :
    let s := ran .heatEvaluation (working.setHau { working.hau with budget := 77 })
    s.hau.budget = 0 ∧ s.hau.first = false ∧ s.hau.nextEval = seconds 4 ∧ s.now = seconds 2 := by
  obtain ⟨a, b, c, d⟩ := exec_heatEvaluation_record
    (s := working.setHau { working.hau with budget := 77 }) rfl (exec_ran _ _)
  exact ⟨a.trans (by decide +kernel), b, c.trans (by decide +kernel), d.trans (by decide +kernel)⟩

/-- R135, R142: four frames of 25 ms make a fade of 0.1 s; at the first the levels are 50. -/
theorem test_cue_frame :
    let s := ran .cueFrame ((withCue plainCue working).startCue .showPlayback)
    s.cue.levelMap[1] = 50 ∧ s.cue.levelMap[2] = 0 ∧ s.now = millis 25 := by decide +kernel

/-! ### Valve drives -/

/-- R114: a step of a seek moves one; the next ends 20 ms later. -/
theorem test_seek_step_end :
    let v := (ran (.seekStepEnd 0) (withValve { drive .seeking 100 103 with
      toOpen := true, remaining := 3, stepEnd := millis 20 } working)).valve 0
    v.position = 101 ∧ v.remaining = 2 ∧ v.stepEnd = millis 40 := by decide +kernel

/-- R118: for a travel of 480 the search ends at the 540th step, in FAULT. -/
theorem test_search_step_end :
    let v := { drive (.homing .search) 0 0 with searchCount := 539 }
    let s := ran (.searchStepEnd 0) (withValve v (busyLink working))
    (s.valve 0).state = .fault ∧ (s.valve 0).cause = .homeNotFound
      ∧ notice s .valveFault = (1, 0, 2) := by decide +kernel

/-- R117: after the last seat step the position is 0 and the channel settles for 0.5 s. -/
theorem test_seat_step_end :
    let v := (ran (.seatStepEnd 0) (withValve { drive (.homing (.seat 1)) 77 0 with
      stepEnd := millis 20 } working)).valve 0
    v.position = 0 ∧ v.state = .settling ∧ v.stepEnd = millis 520 := by decide +kernel

/-- R115: the end of SETTLING raises VALVE_DONE and goes on to the target in the slot. -/
theorem test_settle_end :
    let s := ran (.settleEnd 0) (withValve { drive .settling 100 100 with
      slot := .target 90 } (busyLink working))
    (s.valve 0).state = .seeking ∧ (s.valve 0).target = 90 ∧ (s.valve 0).toOpen = false
      ∧ notice s .valveDone = (1, 0, 100) := by decide +kernel

/-- R120: CLOSED during a seek toward closed is an EARLY_CLOSE. -/
theorem test_closed_assert :
    let s := ran (.closedAssert 0) (withValve (drive .seeking 5 0) (busyLink working))
    (s.valve 0).position = 0 ∧ (s.valve 0).state = .settling
      ∧ notice s .valveFault = (1, 0, 3) := by decide +kernel

/-- R120: CLOSED in READY above 0 is a STOP_MISMATCH. -/
theorem test_closed_assert_mismatch :
    let s := ran (.closedAssert 0) (withValve (drive .ready 5 5) (busyLink working))
    (s.valve 0).state = .unhomed ∧ notice s .valveFault = (1, 0, 4) := by decide +kernel

/-- R120: a release of CLOSED acts in no state. -/
theorem test_closed_release :
    let v := (ran (.closedRelease 0) (withValve { drive .ready 0 0 with closed := true }
      working)).valve 0
    v = drive .ready 0 0 := by decide +kernel

/-- R121: MAN takes a seeking channel to MANUAL. -/
theorem test_man_assert :
    let v := (ran (.manAssert 0) (withValve { drive .seeking 5 9 with slot := .home } working)).valve 0
    v.state = .manual ∧ v.target = 5 ∧ v.slot = .empty := by decide +kernel

/-- R121: MAN released with DFLT asserted leaves FAULT. -/
theorem test_man_release :
    let s := ran (.manRelease 0) (withValve { drive .manual 5 5 with man := true, dflt := true }
      (busyLink working))
    (s.valve 0).state = .fault ∧ notice s .valveFault = (1, 0, 1) := by decide +kernel

/-- R122: DFLT takes a channel that failed to find home to a drive fault. -/
theorem test_dflt_assert :
    let s := ran (.dfltAssert 0) (withValve { drive .fault 5 5 with cause := .homeNotFound }
      (busyLink working))
    (s.valve 0).cause = .driveFault ∧ notice s .valveFault = (1, 0, 1) := by decide +kernel

/-- R122: a release of DFLT leaves FAULT. -/
theorem test_dflt_release :
    let v := (ran (.dfltRelease 0) (withValve { drive .fault 5 5 with dflt := true }
      working)).valve 0
    v.state = .fault ∧ v.dflt = false := by decide +kernel

/-- 11.5: at the end of the pulse the channel is UNHOMED and the request is answered DONE. -/
theorem test_fault_clear_pulse_end :
    let s := withValve { drive .fault 5 5 with
      cause := .homeNotFound, clearing := true, pulseEnd := millis 10 } working
    let u := ran (.faultClearPulseEnd 0) (s.setMgr { s.mgr with inHand := some ⟨200#8, 1#8, 0⟩ })
    (u.valve 0).state = .unhomed ∧ (u.valve 0).cause = .none ∧ replyBytes u = [9, 1, 0]
      ∧ u.now = millis 10 := by decide +kernel

/-- R125: a channel with MAN and DFLT asserted is placed in MANUAL. -/
theorem test_valve_lines_placed :
    let s := working.setValve 1 { working.valve 1 with man := true, dflt := true }
    ((ran .valveLinesPlaced s).valve 1).state = .manual := by decide +kernel

/-- R125: a channel that a request sent home before the placing is UNHOMED at it. -/
theorem test_valve_lines_placed_homing :
    let s := working.setValve 1 { working.valve 1 with state := .homing .search }
    ((ran .valveLinesPlaced s).valve 1).state = .unhomed := by decide +kernel

/-! ### Requests -/

/-- R42: a point of station 127 is BAD_VALUE. -/
theorem test_write_point : status (ran (.writeEntryPointRecord (request
    [17, 1, 0, 127, 3, 6, 0, 0, 3, 232, 0, 200, 3, 82, 0, 30, 0, 30, 0, 60, 2, 188, 0, 0, 0, 0, 1]))
    working) = 3 := by decide +kernel

/-- 3.8: the record of point 17 is stored as it is written. -/
theorem test_write_point_record : (ran (.writeEntryPointRecord (request
    [17, 1, 0, 42, 3, 6, 0, 0, 3, 232, 0, 200, 3, 82, 0, 30, 0, 30, 0, 60, 2, 188, 0, 0, 0, 0, 1]))
    working).ptw.points[17] = fresh humidity := by decide +kernel

/-- R27: a station that stands in the other list is IN_USE. -/
theorem test_write_poll : status (ran (.writeEntryPollEntry (request [1, 0, 42, 0, 10]))
    (working.setPlant { working.plant with
      polls := working.plant.polls.set 5 ⟨42, 1, .unpolled, 0, none⟩ })) = 4 := by decide +kernel

/-- R29: a window of 51 ms is BAD_VALUE. -/
theorem test_write_field_port :
    status (ran (.writeEntryFieldPortSetting (request [0, 51, 0])) working) = 3 := by decide +kernel

/-- R62: a knot write clears the validity flag and makes a FOG zone UNKNOWN, with its notice. -/
theorem test_write_knot :
    let f := (busyLink working).fcu
    let s := (busyLink working).setFcu { f with
      valid := true, zones := f.zones.set 2 { FogZone.fresh with state := .fog } }
    let u := ran (.writeEntrySaturationKnot (request [40, 2, 1])) s
    u.fcu.knots[40] = 513 ∧ u.fcu.valid = false ∧ u.fcu.zones[2].state = .unknown
      ∧ notice u .fogState = (1, 2, 0) := by decide +kernel

/-- R64: a dwell time of 600 s is in range. -/
theorem test_write_fog :
    (ran (.writeEntryFogConfiguration (request [0, 2, 88])) working).fcu.dwell = 600 := by
  decide +kernel

/-- R85: part 12 is stand zone 7. -/
theorem test_write_heat : (ran (.writeEntryHeatPlantPart (request [12, 0, 120, 2, 88])) working).hau.zones[7]
    = ⟨120, 600⟩ := by decide +kernel

/-- R86, R178: zone code 255 is NONE. -/
theorem test_write_load : (ran (.writeEntryLightingLoad (request [9, 255, 150])) working).hau.loads[9]
    = ⟨none, 150⟩ := by decide +kernel

/-- R111: a configuration write while the channel homes is BUSY. -/
theorem test_write_valve : status (ran (.writeEntryValveConfiguration
    (request [0, 1, 224, 20, 5, 8, 0, 1])) (withValve (drive (.homing .search) 0 0) working)) = 6 := by
  decide +kernel

/-- R150: a profile of all zeros is BAD_VALUE, since W > A > F does not hold. -/
theorem test_write_profile : status (ran (.writeEntryProfile
    (request (1 :: List.replicate 26 0))) working) = 3 := by decide +kernel

/-- R128: the current cue of a FADING playback is IN_USE. -/
theorem test_write_cue : status (ran (.writeEntryCueRecord (request
    [0, 0, 1, 0, 0, 0, 0, 8, 0, 1, 0, 0, 0, 0, 0, 0, 0, 9, 0, 0, 0, 0, 0, 0]))
    ((withCue plainCue working).startCue .showPlayback)) = 4 := by decide +kernel

/-- R129: a span entry at address 511. -/
theorem test_write_span :
    let e := (ran (.writeEntrySpanEntry (request [1, 255, 9, 1, 0])) working).cue
    e.span 511 = ⟨9, 256⟩ ∧ e.span 510 = ⟨0, 0⟩ := by decide +kernel

/-- R129: scene address 4096 does not exist. -/
theorem test_write_scene :
    status (ran (.writeEntrySceneLevel (request [16, 0, 77])) working) = 2 := by decide +kernel

/-- R160: a region that passes place 4095 is BAD_VALUE. -/
theorem test_write_descriptor : status (ran (.writeEntryCaptureDescriptor
    (request [3, 0, 0, 15, 255, 0, 2, 0, 0, 1, 0, 0, 0, 0, 0])) working) = 3 := by decide +kernel

/-- R170: START keeps its level of 7. -/
theorem test_write_level : status (ran (.writeEntryNoticeLevel (request [0, 6])) working) = 3 := by
  decide +kernel

/-- R178: READ_ENTRY of the fog configuration returns the power-on dwell time of 60 s. -/
theorem test_read_entry :
    replyBytes (ran (.readEntry (request [4, 0])) working) = [2, 7, 0, 0, 60] := by decide +kernel

/-- R180: the reset cause after power-on is POWER alone; the station is 126. -/
theorem test_read_status :
    replyBytes (ran (.readStatus (request [12, 0])) working) = [4, 7, 0, 1, 0, 0, 126] := by
  decide +kernel

/-- R8: a body of one byte is answered BAD_REQUEST with tag 00h. -/
theorem test_unknown_request :
    replyBytes (ran (.unknownRequest 200#8 [99#8]) working) = [99, 0, 1] := by decide +kernel

/-- R63: a table that does not rise is BAD_VALUE. -/
theorem test_validate :
    let s := ran (.validate (request [])) working
    status s = 3 ∧ s.fcu.valid = false := by decide +kernel

/-- R153, R154, R141: a selection raises PROFILE_CHANGE with 256 × cause + the former index. -/
theorem test_select_profile :
    let s := ran (.selectProfile (request [2])) (withProfile (busyLink working))
    s.prf.active = some 2 ∧ notice s .profileChange = (1, 2, 511)
      ∧ s.cue.playbackShow.pointer = 3 := by decide +kernel

/-- R133, R137: cue 0 as at power-on has a run of width 0: reason 1, NOT_READY. -/
theorem test_go :
    let s := ran (.go (request [1])) (busyLink working)
    status s = 5 ∧ s.cue.playbackHouse.state = .fault ∧ notice s .cueFault = (1, 0, 257) := by
  decide +kernel

/-- R138: STOP leaves the playback IDLE with its run pointer kept. -/
theorem test_stop :
    let s := ran (.stop (request [0])) ((withCue plainCue working).startCue .showPlayback)
    s.cue.playbackShow.state = .idle ∧ s.cue.playbackShow.current = none := by decide +kernel

/-- R116: HOME_VALVE of a READY channel starts a home run. -/
theorem test_home_valve :
    let s := ran (.homeValve (request [0])) (withValve (drive .ready 9 9) working)
    (s.valve 0).state = .homing .search ∧ (s.valve 0).stepEnd = millis 20 ∧ status s = 0 := by
  decide +kernel

/-- R123: in FAULT the pulse of 10 ms begins, and the request waits in hand. -/
theorem test_clear_valve_fault :
    let s := ran (.clearValveFault (request [0])) (withValve (drive .fault 9 9) working)
    (s.valve 0).clearing = true ∧ (s.valve 0).pulseEnd = millis 10
      ∧ s.mgr.inHand = some ⟨200#8, 7#8, 0⟩ ∧ s.mgr.slot = none := by decide +kernel

/-- 9.9: an enabled RING channel is ARMED at its base. -/
theorem test_enable_capture :
    let s := ran (.enableCapture (request [2])) (withChannel (.written ring) working)
    s.tcu.channels[2].state = .armed ∧ s.tcu.channels[2].pointer = 1000
      ∧ s.tcu.channels[2].remaining = 0 ∧ status s = 0 := by decide +kernel

/-- R167: DISABLE_CAPTURE ends a running channel, end status 6. -/
theorem test_disable_capture :
    let s := ran (.disableCapture (request [2]))
      (withChannel { CaptureChannel.written linear with state := .running, remaining := 2 }
        (busyLink working))
    s.tcu.channels[2].state = .ended ∧ notice s .captureEnd = (1, 2, 6) := by decide +kernel

/-- R156: a limit of 3 is BAD_VALUE. -/
theorem test_set_boiler_limit :
    status (ran (.setBoilerLimit (request [3])) working) = 3 := by decide +kernel

/-- R174: with the threshold at 3 a FOG zone asserts ALM at once, at the power-on levels of 3. -/
theorem test_set_alarm_threshold :
    let s := working.setFcu { working.fcu with
      zones := working.fcu.zones.set 0 { FogZone.fresh with state := .fog } }
    (ran (.setAlarmThreshold (request [3])) s).ntu.alm = true
      ∧ (ran (.setAlarmThreshold (request [4])) s).ntu.alm = false := by decide +kernel

/-- R18: the current entry of the rate list waits for the end of the REPLY. -/
theorem test_set_rate :
    let p := (ran (.setRate (request [2, 0, 0, 15])) working).supervisor
    p.rateList[0] = 15 ∧ p.line.divisor = 7 ∧ p.rateAtReply = true := by decide +kernel

/-- R17: search off. -/
theorem test_set_search :
    (ran (.setSearch (request [0])) working).supervisor.search = false := by decide +kernel

/-- R16: the counts of the bowl port and its flag are cleared. -/
theorem test_clear_counts :
    (ran (.clearCounts (request [1])) (working.portEvent .bowl .overrun)).bowl.line.counts
      = Counts.zero := by decide +kernel

/-- R183: all three flags are clear. -/
theorem test_clear_reset_cause :
    (ran (.clearResetCause (request [])) working).mgr.power = false := by decide +kernel

/-- R184: RESTART is answered DONE, and its REPLY is marked. -/
theorem test_restart :
    let s := ran (.restart (request [])) working
    replyBytes s = [18, 7, 0] ∧ s.mgr.restarting = true := by decide +kernel

/-! ### Resets -/

/-- R182: power-on holds a working part and keeps the levels of the lines. -/
theorem test_power_on :
    let s := ran .powerOn (withValve { drive .manual 5 5 with man := true } working)
    s.hold = .powerOn ∧ (s.valve 0).state = .unhomed ∧ (s.valve 0).man = true := by decide +kernel

/-- R183: a line reset adds LINE to POWER. -/
theorem test_line_reset :
    let s := ran .lineReset working
    s.hold = .lineReset ∧ s.mgr.power = true ∧ s.mgr.lineFlag = true := by decide +kernel

/-- R175, R181: straps of 0 read as station 126; START is sent as the first notice. -/
theorem test_work_start :
    let s := ran (.workStart 0#7) State.reset
    s.mgr.address = 126 ∧ s.hold = .working
      ∧ (s.supervisor.line.sending.map Sending.telegram)
        = some ⟨127#8, 126#8, 0x12#8, [0, 7, 1, 0, 0, 126].map byteOf⟩ := by decide +kernel

/-- The queue: a step takes the command in front and leaves the rest. -/
theorem test_step_takes_front :
    (match step { State.reset with pending := [.workStart 5#7, .lineReset] } with
      | .next s => s.pending == [.lineReset] && s.mgr.address == 5
      | _ => false) = true := by decide +kernel

/-! ### Witnesses: states and operands that meet the hypotheses of the statements

Each theorem is named after its statement and goes through its clauses. -/

/-- The plant port free, with poll entry 0 of station 42 due at 1 s and entry 1 never polled. -/
def freePort : FieldPort := { FieldPort.powerOn with
  quiet := true, polls := (FieldPort.powerOn.polls.set 0 ⟨42, 10, .answering, 0, some 0⟩).set 1
    ⟨43, 600, .unpolled, 0, none⟩ }

/-- A telegram of an unassigned kind with the longest body. -/
def longest : Telegram := ⟨42#8, 200#8, 0x20#8, .replicate 40 0#8⟩

theorem witness_StepRunsFront :
    { working with pending := [.powerOn, .lineReset] }.pending = .powerOn :: [.lineReset] := rfl

theorem witness_IdlePartRunsDueEvents :
    (State.reset.pending = [] ∧ State.reset.hold ≠ .working ∧ State.reset.dueEvents = [])
    ∧ (working.pending = [] ∧ working.dueEvents = [.valveLinesPlaced])
    ∧ (working.setNow (millis 25)).dueEvents.length = 4 := by decide +kernel

theorem witness_RequestsRoundTrip :
    (Instr.writeEntryPointRecord ⟨200#8, 0#8, .replicate 37 0#8⟩).wf = true
    ∧ encodeRequest (.writeEntryPointRecord ⟨200#8, 0#8, .replicate 37 0#8⟩)
        = some (200#8, 1#8 :: .replicate 39 0#8)
    ∧ (List.replicate 40 (0#8 : Byte)).length ≤ 40 := by decide +kernel

theorem witness_TrafficStaysSound : working.QueuesBounded ∧ working.PollListsSound
    ∧ working.CountersSaturate ∧ ∃ t : State, step working = .next t := by
  refine ⟨by constructor <;> decide +kernel, ⟨?_, ?_⟩, ?_, step_answers working⟩
  · intro g i h
    cases g <;> simp [working, State.reset, State.field, FieldPort.powerOn, PollEntry.vacant] at h
  · intro g h i j hi
    cases g <;> simp [working, State.reset, State.field, FieldPort.powerOn, PollEntry.vacant] at hi
  · have port : FieldPort.powerOn.CountsBounded :=
      ⟨by constructor <;> decide +kernel, by decide, by decide +kernel⟩
    exact ⟨port, port, by constructor <;> decide +kernel, by decide +kernel, by decide +kernel,
      by decide +kernel, by decide +kernel⟩

theorem witness_PointTableStaysSound :
    working.PointsSound ∧ ∃ t : State, step working = .next t := by
  have unused : ∀ i : Fin 256, working.config i = .blank := by decide +kernel
  have idle : ∀ i : Fin 256, working.runtime i = .fresh 0 := by decide +kernel
  refine ⟨⟨?_, ?_, ?_, ?_, by decide +kernel, ?_, ?_⟩, step_answers working⟩
  · intro i h; rw [unused i] at h; cases h
  · intro i j h; rw [unused i] at h; cases h
  · intro i j h; rw [unused i] at h; cases h
  · intro i
    have hc := unused i
    have hr := idle i
    unfold State.config at hc
    unfold State.runtime at hr
    constructor <;> rw [hr] <;> (try rw [hc]) <;> simp [PointRuntime.fresh, PointConfig.blank]
  · intro i; rw [idle i]; simp [PointRuntime.fresh, working, State.reset, PointTable.powerOn]
  · intro i h; rw [idle i] at h; cases h

theorem witness_HeatStaysPaidFor : working.StageSound ∧ working.hau.result.Sound
    ∧ ∃ t : State, step working = .next t := by
  refine ⟨?_, ?_, step_answers working⟩ <;> constructor <;> decide +kernel

theorem witness_ValvesStaySound : working.ValvesSound ∧ ∃ t : State, step working = .next t := by
  refine ⟨?_, step_answers working⟩
  intro c
  have h : working.valve c = Valve.powerOn false false false := by revert c; decide +kernel
  rw [h]
  constructor <;> first | decide +kernel | (intro t h; cases h)

theorem witness_CuesAndCapturesStaySound : working.CuesSound ∧ working.CapturesSound
    ∧ ∃ t : State, step working = .next t := by
  have play : (Playback.idleAt 0).Sound := by
    refine ⟨by decide +kernel, by decide +kernel, by decide +kernel, by decide +kernel,
      by decide +kernel, by decide +kernel, ?_⟩
    intro ch x h
    simp [Playback.idleAt, Fade.cleared] at h
  refine ⟨⟨play, play, by decide +kernel, by decide +kernel, ?_, ?_⟩, ⟨?_, ?_, ?_⟩,
    step_answers working⟩
  · exact ⟨List.Pairwise.nil, fun x h => by cases h⟩
  · exact ⟨List.Pairwise.nil, fun x h => by cases h⟩
  · intro i
    have h : working.tcu.channels[i] = ⟨.zero, .off, 0, 0, 0, none, .none⟩ := by
      revert i; decide +kernel
    rw [h]
    constructor <;> decide +kernel
  · decide +kernel
  · exact ⟨List.Pairwise.nil, fun x h => by cases h⟩

theorem witness_ManagementStaysSound : working.NoticesSound ∧ working.ManagementSound
    ∧ State.reset.HeldIsSilent ∧ State.reset.hold ≠ .working ∧ ∃ t : State, step working = .next t := by
  refine ⟨by constructor <;> decide +kernel, ?_, ?_, by decide, step_answers working⟩
  · refine ⟨by decide +kernel, by decide +kernel, by decide +kernel, by decide +kernel, ?_⟩
    intro x h; cases h
  · refine ⟨?_, ?_, fun _ => ⟨rfl, rfl, rfl⟩, fun _ => ⟨rfl, rfl⟩, fun _ => rfl⟩
    · intro _ p; cases p <;> exact ⟨rfl, rfl⟩
    · intro _ g; cases g <;> exact ⟨rfl, rfl⟩

theorem witness_SettingsStayInRange :
    working.SettingsInRange ∧ ∃ t : State, step working = .next t := by
  have port : FieldPort.powerOn.InRange := ⟨by decide, (fun n h => by cases h), by decide⟩
  refine ⟨⟨port, port, ?_, ?_, ?_, ?_, ?_, ?_, ?_, ?_, ?_, ?_, ?_, ?_, ?_, ?_, ?_, ?_,
    fun a => Nat.le_of_lt_succ (BitVec.isLt _), ?_, ?_, ?_, ?_, ?_⟩, step_answers working⟩
  all_goals decide +kernel

theorem witness_AlarmFollowsTheConditions :
    ∃ t : State, exec .fogEvaluation working = .next t := ⟨_, rfl⟩

theorem witness_ArbitrationFrame : working.hold = .working ∧ working.plant.free = false ∧ working.bowl.free = false
    ∧ (busyLink working).supervisor.line.sending ≠ none ∧ State.reset.hold ≠ .working := by
  decide +kernel

/-- Two sources pending at levels 3 and 7. -/
def pendingNotices : State :=
  (working.raise .portError 0 1).raise .start 0 126

theorem witness_ChoicesAreTheFirstInOrder :
    freePort.longestDue (seconds 1 - 1) = some 1
    ∧ (freePort.polls[(1 : Fin 32)].station ≠ 0 ∧ freePort.polls[(1 : Fin 32)].lastPoll = none)
    ∧ (let f := { freePort with polls := ((freePort.polls.set 1 ⟨43, 8, .answering, 0, some 5⟩).set 2
        ⟨44, 1, .silent, 3, some 5⟩) }
      f.longestDue (5 + millis 799) = none ∧ f.longestDue (5 + millis 800) = some 1
        ∧ { f with polls := f.polls.set 1 .vacant }.longestDue (5 + millis 800) = some 2)
    ∧ FieldPort.powerOn.longestDue 0 = none
    ∧ pendingNotices.ntu.offered = some .start ∧ working.ntu.offered = none
    ∧ working.nextBlock = some 0
    ∧ (working.setCue { working.cue with due := .replicate 16 false }).nextBlock = none
    ∧ (0 : Fin 16) < 1 := by decide +kernel

/-- The part with its plant port free, a relayed telegram waiting and the non-poll count at its most. -/
def withRelay : State := working.setPlant { freePort with relayDown := [longest], nonPoll := 4 }

/-- The part with its bowl port free and point 60 pending, its station on the bowl list. -/
def withPending : State :=
  (withPoint 60 ⟨zoneValve, { PointRuntime.fresh 0 with
      toSend := some 5, pendingFlag := true }⟩ working).setPtw
    ⟨(withPoint 60 ⟨zoneValve, { PointRuntime.fresh 0 with
      toSend := some 5, pendingFlag := true }⟩ working).ptw.points, [60]⟩
  |>.setBowl { FieldPort.powerOn with
      quiet := true, polls := FieldPort.powerOn.polls.set 4 ⟨31, 100, .answering, 0, some 0⟩ }

theorem witness_FieldPortTakesInOrder :
    working.plant.free = false
    ∧ (withRelay.plant.free = true ∧ withRelay.plant.longestDue 0 = some 1
      ∧ 4 ≤ withRelay.plant.nonPoll)
    ∧ (freePort.free = true ∧ freePort.longestDue 0 = some 1 ∧ freePort.relayDown = []
      ∧ (working.setPlant freePort).oldestPending .plant = none)
    ∧ ({ withRelay.plant with nonPoll := 3 }.nonPoll < 4
      ∧ { withRelay.plant with nonPoll := 3 }.relayDown = longest :: [])
    ∧ (withPending.bowl.free = true ∧ withPending.bowl.nonPoll < 4
      ∧ withPending.bowl.relayDown = [] ∧ withPending.oldestPending .bowl = some 60)
    ∧ (withPending.ptw.pendingOut = [60] ∧ withPending.bowl.slotOf 31 = some 4)
    ∧ (let s := working.setBowl { FieldPort.powerOn with quiet := true }
      s.bowl.free = true ∧ s.bowl.relayDown = [] ∧ s.oldestPending .bowl = none
        ∧ s.nextBlock = some 0)
    ∧ (let s := working.setPlant { FieldPort.powerOn with quiet := true }
      s.plant.free = true ∧ s.plant.longestDue 0 = none ∧ s.plant.relayDown = []
        ∧ s.oldestPending .plant = none
        ∧ ((s.schedule .plant).field .plant).line.sending = (s.field .plant).line.sending)
    ∧ ((withRelay.schedule .plant).field .plant).line.sending
        ≠ (withRelay.field .plant).line.sending := by decide +kernel

theorem witness_SupervisorLinkTakesInOrder :
    (busyLink working).supervisor.line.sending ≠ none
    ∧ (working.supervisor.line.sending = none
      ∧ (working.setMgr { working.mgr with slot := some longest }).mgr.slot = some longest)
    ∧ (pendingNotices.mgr.slot = none ∧ pendingNotices.ntu.offered = some .start)
    ∧ (working.setTraffic ⟨[], [longest], 15⟩).traffic.relayUp = longest :: []
    ∧ (working.mgr.slot = none ∧ working.ntu.offered = none ∧ working.traffic.relayUp = []) := by
  decide +kernel

theorem witness_TelegramsArriveAsSent : longest.body.length ≤ 40
    ∧ (⟨1#8, 2#8, 1#8, []⟩ : Telegram).body.length ≤ 40 ∧ 45 < 6 + longest.body.length
    ∧ (let x := (List.range 11).flatMap (fun j => List.replicate 16 ((lineBits 255#8 true).getLsbD j))
      169 ≤ (x.take 169).length ∧ x[0]? = some false ∧ x[7]? = some false)
    ∧ (1 ≤ 1 ∧ 7 ≤ 7 ∧ 8 ≤ 7 + 1)
    ∧ (let x := sending .poll longest 0
      { working.plant.line with sending := some x }.sending = some x
        ∧ x.chars[45]? = some (lineBits (longest.bytes.getLastD 0#8) false)
        ∧ 10 < 11 ∧ 63 < 16 * (x.divisor + 1)) := by decide +kernel

/-- The samples of a good character. -/
def good (data : Byte) (mark : Bool) : List Bool := samplesOf (lineBits data mark)

theorem witness_CharactersBuildTelegrams :
    (State.reset.hold ≠ .working
      ∧ (working.setPlant { FieldPort.powerOn with line := { FieldPort.powerOn.line with
          sending := some (sending .poll longest 0) } }).receiverOff .plant = true
      ∧ takeCharacter (List.replicate 176 true) = none)
    ∧ (working.hold = .working ∧ working.receiverOff .supervisor = false
      ∧ takeCharacter (good 40#8 false) = some (8, ⟨40#8, false, true⟩)
      ∧ takeCharacter (good 40#8 true) = some (8, ⟨40#8, true, true⟩)
      ∧ (working.line .supervisor).receiver = .hunt)
    ∧ (let l := ((working.setReceiver .supervisor (.assemble [1#8])).line .supervisor)
      l.receiver = .assemble [1#8]
        ∧ max working.now (l.lookFrom + (352 + 176) * (l.divisor + 1))
          ≤ l.lastEnd + 3 * (176 * (l.divisor + 1))
        ∧ l.lastEnd + 3 * (176 * (l.divisor + 1))
          < max working.now (l.lookFrom + (353 + 176) * (l.divisor + 1)))
    ∧ (let got : List Byte := [1#8, 2#8, 3#8]
      ((working.setReceiver .bowl (.assemble got)).line .bowl).receiver = .assemble got
        ∧ got.length = 3 ∧ (40#8 : Byte).toNat ≤ 40 ∧ wholeTelegram (got ++ [40#8]) = false) := by
  decide +kernel

theorem witness_EventsAreCountedAndRaised :
    (working.supervisor.search = true ∧ working.supervisor.fails < 3)
    ∧ ({ SupervisorPort.powerOn with search := false }).search = false
    ∧ 3 ≤ ({ SupervisorPort.powerOn with fails := 3 }).fails
    ∧ (working.setNtu { working.ntu with levels := working.ntu.levels.set 17 0 }).ntu.levels[
        Source.tableInvalid.number] = 0
    ∧ working.ntu.levels[Source.tableInvalid.number] ≠ 0 := by decide +kernel

/-- A telegram of 45 bytes but its last, and the last that agrees. -/
def almost : List Byte := longest.bytes.dropLast

theorem witness_LineErrorsAreCounted :
    (takeCharacter (samplesOf 0#11) = some (8, ⟨0#8, false, false⟩))
    ∧ (takeCharacter (good 41#8 true) = some (8, ⟨41#8, true, true⟩)
      ∧ takeCharacter (good 41#8 false) = some (8, ⟨41#8, false, true⟩)
      ∧ ([1#8, 2#8, 3#8] : List Byte).length = 3 ∧ 40 < (41#8 : Byte).toNat)
    ∧ (let last := almost.length
      last = 45 ∧ wholeTelegram (almost ++ [0#8]) = true ∧ checkAgrees (almost ++ [0#8]) = false)
    ∧ (let l := (working.setReceiver .supervisor (.assemble almost)).line .supervisor
      l.receiver = .assemble almost ∧ max working.now (l.lookFrom + (8 + 176) * (l.divisor + 1))
        ≤ l.lastEnd + 3 * (176 * (l.divisor + 1))) := by decide +kernel

/-- The answer of station 42 to a POLL, and all of it but its last character. -/
def answer42 : Telegram := ⟨126#8, 42#8, 2#8, [1, 3, 2, 113, 0].map byteOf⟩

/-- The plant port waiting for the last character of that answer, with or without a window. -/
def awaiting (w : Option Window) : State := working.setPlant { freePort with
  line := { freePort.line with receiver := .assemble answer42.bytes.dropLast },
  window := w }

theorem witness_FieldTelegramCompletes :
    let s := awaiting (some ⟨some 42#8, true, false, 5000⟩)
    let last := answer42.bytes.getLastD 0#8
    let got := answer42.bytes.dropLast
    s.hold = .working ∧ (s.field .plant).line.sending = none
    ∧ takeCharacter (good last false) = some (8, ⟨last, false, true⟩)
    ∧ max s.now ((s.field .plant).line.lookFrom + (8 + 176) * ((s.field .plant).line.divisor + 1))
      ≤ (s.field .plant).line.lastEnd + 3 * (176 * ((s.field .plant).line.divisor + 1))
    ∧ (s.line Segment.plant.port).receiver = .assemble got ∧ got.length ≠ 3
    ∧ wholeTelegram (got ++ [last]) = true ∧ checkAgrees (got ++ [last]) = true
    ∧ (telegramOf (got ++ [last])).src = 42#8
    ∧ (s.field .plant).window = some ⟨some 42#8, true, false, 5000⟩
    ∧ ((awaiting none).field .plant).window = none
    ∧ ((awaiting (some ⟨some 43#8, false, false, 5000⟩)).field .plant).window
        = some ⟨some 43#8, false, false, 5000⟩ := by decide +kernel

/-- A REQUEST to the part's own station and one to another. -/
def requestTo (dst : Byte) : Telegram := ⟨dst, 200#8, 0x10#8, [4, 7, 12, 0].map byteOf⟩

theorem witness_SupervisorTelegramCompletes :
    (∀ dst ∈ [126#8, 42#8], let t := requestTo dst
      let last := t.bytes.getLastD 0#8
      let got := t.bytes.dropLast
      takeCharacter (good last false) = some (8, ⟨last, false, true⟩)
      ∧ max working.now (working.supervisor.line.lookFrom
          + (8 + 176) * (working.supervisor.line.divisor + 1))
        ≤ working.supervisor.line.lastEnd + 3 * (176 * (working.supervisor.line.divisor + 1))
      ∧ ((working.setReceiver .supervisor (.assemble got)).supervisor.line.receiver = .assemble got)
      ∧ got.length ≠ 3 ∧ wholeTelegram (got ++ [last]) = true ∧ checkAgrees (got ++ [last]) = true
      ∧ (telegramOf (got ++ [last])).kind = 0x10#8 ∧ (telegramOf (got ++ [last])).dst = dst)
    ∧ working.hold = .working ∧ working.ownAddress = 126#8 := by decide +kernel

theorem witness_PortTimersExpire : working.hold = .working
    ∧ (working.line .plant).receiver = .hunt
    ∧ ((working.setReceiver .plant (.assemble [1#8])).line .plant).receiver = .assemble [1#8]
    ∧ (working.field .bowl).line.sending = none ∧ (working.field .bowl).quiet = false
    ∧ freePort.quiet = true
    ∧ (freePort.polls[(0 : Fin 32)].station ≠ 0 ∧ freePort.polls[(0 : Fin 32)].lastPoll = some 0)
    ∧ freePort.polls[(1 : Fin 32)].lastPoll = none ∧ freePort.polls[(31 : Fin 32)].station = 0 := by
  decide +kernel

theorem witness_FieldTransmissionEnds : working.hold = .working
    ∧ (working.field .plant).line.sending = none
    ∧ ((working.setPlant { freePort with line := { freePort.line with
        sending := some (sending .relay longest 9) } }).field .plant).line.sending
        = some (sending .relay longest 9) := by decide +kernel

/-- The part at the end of a REPLY, with a request waiting or none. -/
def replying (queue : List Telegram) (restarting : Bool) : State :=
  (working.setSupervisor { working.supervisor with line := { working.supervisor.line with
    sending := some (sending .reply longest 9) } }).setMgr
    { working.mgr with slot := some longest, queue := queue, restarting := restarting }

theorem witness_SupervisorTransmissionEnds : (replying [] true).hold = .working
    ∧ working.supervisor.line.sending = none
    ∧ (replying [] true).supervisor.line.sending = some (sending .reply longest 9)
    ∧ (sending .notice longest 9).kind ≠ .reply ∧ (sending .reply longest 9).kind = .reply
    ∧ (replying [] true).mgr.restarting = true
    ∧ ((replying [] false).mgr.restarting = false ∧ (replying [] false).mgr.queue = [])
    ∧ (replying [requestTo 126#8] false).mgr.queue ≠ [] := by decide +kernel

theorem witness_WindowExpiryCountsMiss : working.hold = .working
    ∧ (working.field .plant).window = none
    ∧ (∀ w ∈ [Window.mk none true false 5, ⟨some 42#8, false, false, 5⟩, ⟨some 99#8, true, false, 5⟩,
        ⟨some 42#8, true, true, 5⟩, ⟨some 42#8, true, false, 5⟩], ((awaiting (some w)).field .plant).window = some w)
    ∧ freePort.slotOf 99 = none ∧ freePort.slotOf 42 = some 0 ∧ freePort.slotOf 43 = some 1
    ∧ (freePort.polls[(1 : Fin 32)].state = .unpolled ∧ freePort.polls[(0 : Fin 32)].state = .answering
      ∧ freePort.polls[(0 : Fin 32)].misses < 2
      ∧ (PollEntry.mk 42 10 .answering 2 none).misses = 2
      ∧ (PollEntry.mk 42 10 .silent 65535 none).state = .silent) := by decide +kernel

/-- The part with one telegram in the inbound queue. -/
def inbound (t : Telegram) (p : Port) (note : ReplyNote) (s : State) : State :=
  s.setTraffic ⟨[⟨t, p, note⟩], [], 15⟩

theorem witness_FieldTelegramsAreTaken :
    let s := inbound longest .plant .notInWindow working
    let entries := readingEntries answer42.body.tail
    (working.hold = .working ∧ working.traffic.inbound = [])
    ∧ (s.traffic.inbound = ⟨longest, Segment.plant.port, .notInWindow⟩ :: []
      ∧ longest.reading = none ∧ answer42.reading = some entries)
    ∧ (let r := live17.readingEntries 42 entries
      r.1 = false ∧ r.2.1 = false)
    ∧ (let r := (withPoint 17 (fresh { humidity with forward := 1 }) working).readingEntries 42 entries
      r.1 = true)
    ∧ (let f := working.setPlant { working.plant with forwardUnmatched := true }
      let r := f.readingEntries 42 entries
      r.1 = false ∧ r.2.1 = true ∧ (r.2.2.field .plant).forwardUnmatched = true)
    ∧ (let r := working.readingEntries 42 entries
      r.1 = false ∧ r.2.1 = true ∧ (r.2.2.field .plant).forwardUnmatched = false)
    ∧ (⟨126#8, 42#8, 2#8, []⟩ : Telegram).body = []
    ∧ answer42.body = 1#8 :: answer42.body.tail ∧ longest.body = 0#8 :: longest.body.tail := by
  decide +kernel

/-- Point 17 with another role, and a last raw value of 5. -/
def roled (role : Nat) (s : State) : State :=
  withPoint 17 ⟨{ humidity with role := role }, { PointRuntime.fresh 0 with raw := some 5 }⟩ s

theorem witness_ReadingEntriesAct :
    (live17.ptw.byKey 42 3 = some 17 ∧ live17.ptw.byKey 42 4 = none)
    ∧ ((sent60.config 60).direction ≠ 0 ∧ sent60.ptw.byKey 31 2 = some 60)
    ∧ ((live17.config 17).direction = 0 ∧ (1#8 : Byte) ≠ 0#8)
    ∧ (∀ x ∈ [((850 : Int), Limit.normal), (851, .high), (200, .normal), (199, .low)],
        ((live17.arrival 17 x.1).runtime 17).limit = x.2 ∧ (live17.runtime 17).limit = .normal)
    ∧ (let role := fun (n : Nat) => ((roled n working).config 17).role
      role 25 = 25 ∧ role 26 = 26 ∧ role 27 = 27 ∧ role 6 ≠ 25 ∧ role 6 ≠ 26 ∧ role 6 ≠ 27)
    ∧ ((some (5 : Int)) = some 5 ∧ (5 : Int) ≠ 6)
    ∧ ((-1 : Int) < 0 ∧ (7 : Int) < 8 ∧ (7 : Int) = ((7 : Fin 8).val : Int))
    ∧ ((withProfile working).prf.profiles[(2 : Fin 8)].valid = true
      ∧ (withProfile working).prf.active ≠ some 2
      ∧ (withProfile working).prf.profiles[(0 : Fin 8)].valid = false
      ∧ ((withProfile working).takeSelection 2 1).prf.active = some 2) := by decide +kernel

/-- A COMMAND of one entry for channel 2, and one of bad form. -/
def commandTo (dst : Byte) (count : Nat) : Telegram := ⟨dst, 200#8, 3#8, [count, 2, 1, 144].map byteOf⟩

/-- The part with point 60 of 3.9 on the bowl segment. -/
def onBowl : State := sent60.setBowl { sent60.bowl with
  polls := sent60.bowl.polls.set 4 ⟨31, 100, .answering, 0, some 0⟩ }

theorem witness_SupervisorTelegramsAreRouted :
    (let s := inbound (commandTo 31#8 1) .supervisor .notInWindow onBowl
     s.hold = .working ∧ s.traffic.inbound = ⟨commandTo 31#8 1, .supervisor, .notInWindow⟩ :: [])
    ∧ (answer42.kind = 0x02#8 ∧ longest.kind ≠ 0x02#8 ∧ longest.kind ≠ 0x01#8 ∧ longest.kind ≠ 0x03#8)
    ∧ (onBowl.mgr.address = 126 ∧ onBowl.segmentOf 42 = none ∧ onBowl.segmentOf 31 = some .bowl
      ∧ (31 : Nat) ≠ 0 ∧ 31 < 127 ∧ 127 < 128)
    ∧ ((commandTo 31#8 1).kind = 0x03#8 ∧ (commandTo 31#8 2).command = none
      ∧ (commandTo 31#8 1).command = some [(2#8, 1#8, 144#8)])
    ∧ (onBowl.filterEntries 31 [(2#8, 1#8, 144#8)]).1 = [(2#8, 1#8, 144#8)]
    ∧ (let struck := withPoint 60 (fresh { zoneValve with overrideTime := 0 }) onBowl
      (struck.filterEntries 31 [(2#8, 1#8, 144#8)]).1 = [])
    ∧ (commandTo 31#8 1).body = 1#8 :: [2#8, 1#8, 144#8] := by decide +kernel

theorem witness_OwnershipFilterActs :
    (sent60.ptw.byKey 31 3 = none ∧ live17.ptw.byKey 42 3 = some 17
      ∧ (live17.config 17).direction = 0)
    ∧ (sent60.ptw.byKey 31 2 = some 60 ∧ (sent60.config 60).direction ≠ 0
      ∧ (sent60.config 60).overrideTime ≠ 0 ∧ (sent60.runtime 60).overrideAt = none)
    ∧ (withPoint 60 (fresh { zoneValve with overrideTime := 0 }) sent60).ptw.byKey 31 2 = some 60
    ∧ ((sent60.filterEntry 31 2).2.runtime 60).overrideAt ≠ none
    ∧ (sent60.ptw.holder 32 = some 60 ∧ sent60.ptw.holder 33 = none
      ∧ (sent60.filterEntry 31 2).2.ptw.holder 32 = some 60)
    ∧ ((sent60.runtime 60).lastSent = some 333 ∧ (some 333 : Option Int) ≠ some 334
      ∧ (sent60.runtime 60).pendingFlag = false
      ∧ ((sent60.writeRole 32 334).runtime 60).pendingFlag = true) := by decide +kernel

theorem witness_PointTimersExpire :
    (live17.hold = .working ∧ (live17.config 17).inUse = true ∧ (live17.config 17).direction = 0
      ∧ (live17.runtime 17).watch = .live ∧ (live17.runtime 17).lastArrival = some 0)
    ∧ (let s := ran (.staleExpiry 17) live17
      (s.runtime 17).watch = .stale ∧ (s.runtime 17).staleSince = some 30000
        ∧ (s.config 17).inUse = true ∧ (s.config 17).direction = 0)
    ∧ ((working.config 17).inUse = false ∧ (sent60.config 60).direction ≠ 0)
    ∧ ((sent60.config 60).inUse = true ∧ (sent60.runtime 60).overrideAt = none
      ∧ (sent60.runtime 60).pendingFlag = false ∧ (sent60.runtime 60).lastSent = some 333
      ∧ (sent60.runtime 60).lastSending = some 0)
    ∧ (let r := (sent60.filterEntry 31 2).2.runtime 60
      r.overrideAt = some 600000 ∧ r.autoValue = some 333 ∧ r.pendingFlag = false)
    ∧ (PointRuntime.fresh 0).autoValue = none := by decide +kernel

/-- Channel 2 as enabled, with its pointer and count at given values. -/
def capturing (d : Descriptor) (state : CaptureState) (pointer remaining : Nat) : State :=
  withChannel { CaptureChannel.written d with state := state, pointer := pointer,
                                              remaining := remaining } working

theorem witness_CaptureChannelsAct :
    (let c := (capturing linear .running 13 1).tcu.channels[(2 : Fin 8)]
     let d := c.descriptor
     c.active = true ∧ d.hasSource .budget = true ∧ d.mode = 0 ∧ d.pointerMode ≠ 1
       ∧ d.base + d.length ≤ c.pointer + 1 ∧ c.remaining ≤ 1)
    ∧ (let c := (capturing linear .running 12 2).tcu.channels[(2 : Fin 8)]
      ¬(c.descriptor.pointerMode ≠ 1 ∧ c.descriptor.base + c.descriptor.length ≤ c.pointer + 1)
        ∧ 1 < c.remaining)
    ∧ (let c := (capturing ring .running 1003 1).tcu.channels[(2 : Fin 8)]
      c.active = true ∧ c.descriptor.hasSource (.margin 1) = true ∧ c.descriptor.mode = 1
        ∧ c.state = .running ∧ c.remaining ≤ 1 ∧ c.descriptor.hasSource .budget = false)
    ∧ (let c := (capturing ring .armed 1000 0).tcu.channels[(2 : Fin 8)]
      c.state = .armed ∧ c.state ≠ .running ∧ c.descriptor.mode = 1
        ∧ c.descriptor.triggerKind = 1 ∧ c.descriptor.triggerNumber = 1)
    ∧ (let d : Descriptor := { linear with sourceKind := 0, sourceNumber := 17, stopOnAlarm := 1 }
      let c := (capturing d .running 10 2).tcu.channels[(2 : Fin 8)]
      c.active = true ∧ c.descriptor.mode = 0 ∧ c.descriptor.stopOnAlarm = 1
        ∧ c.descriptor.sourceKind = 0 ∧ c.descriptor.sourceNumber = (17 : Fin 256).val)
    ∧ working.tcu.channels[(2 : Fin 8)].active = false := by decide +kernel

/-- The part with a valid table and the three points of fog zone 0, at 14.20 °C, 62.5 % and 8.40 °C. -/
def foggy : State :=
  let reads := fun (role : Nat) (v : Int) => (⟨{ humidity with channel := role, role := role },
    { PointRuntime.fresh v with watch := .live, lastArrival := some 0 }⟩ : Point)
  (withPoint 1 (reads 1 1420) (withPoint 2 (reads 5 625) (withPoint 3 (reads 9 840) working))).setFcu
    { workedTable with valid := true }

/-- The part with the stage at a value since moment 1. -/
def staged (stage : Nat) : State :=
  working.setFcu { working.fcu with stage := stage, lastChange := some 1 }

theorem witness_FogEvaluationActs :
    (working.hold = .working ∧ working.fcu.valid = false)
    ∧ (foggy.hold = .working ∧ foggy.fcu.valid = true ∧ foggy.fogInputs 1 = none
      ∧ foggy.fogInputs 0 = some (1420, 625, 840, true))
    ∧ (foggy.ptw.holder 1 = some 1 ∧ foggy.ptw.holder 5 = some 2 ∧ foggy.ptw.holder 9 = some 3
      ∧ foggy.ptw.holder 2 = none)
    ∧ (4 < { working.fcu with stage := 5 }.stage)
    ∧ (∃ u : State, exec .fogEvaluation working = .next u.arbitrate ∧ working.fcu.stage ≤ 4
      ∧ u.fcu.demand ≠ working.fcu.stage ∧ working.fcu.lastChange = none
      ∧ u.fcu.stage ≠ working.fcu.stage)
    ∧ (∃ u : State, exec .fogEvaluation (staged 1) = .next u.arbitrate
      ∧ u.fcu.demand = (staged 1).fcu.stage ∧ u.fcu.stage = (staged 1).fcu.stage)
    ∧ (∃ u : State, exec .fogEvaluation (staged 2) = .next u.arbitrate
      ∧ u.fcu.demand ≠ (staged 2).fcu.stage ∧ (staged 2).fcu.lastChange = some 1
      ∧ u.now < 1 + seconds (staged 2).fcu.dwell) := by
  have run := fun (s : State) => State.fogEvaluation_stages s
  refine ⟨by decide +kernel, by decide +kernel, by decide +kernel, by decide +kernel,
    ⟨_, State.work_of_working rfl State.fogEvaluation, ?_⟩,
    ⟨_, State.work_of_working rfl State.fogEvaluation, ?_⟩,
    ⟨_, State.work_of_working rfl State.fogEvaluation, ?_⟩⟩
  · rw [(run working).2.2.1, (run working).2.2.2.1]; decide +kernel
  · rw [(run (staged 1)).2.2.1, (run (staged 1)).2.2.2.1]; decide +kernel
  · rw [(run (staged 2)).2.2.1, (run (staged 2)).1]; decide +kernel

theorem witness_DewPointStaysInTable :
    workedTable.tableOk = true ∧ (∀ i : Fin 41, workedTable.knots[i] ≤ 65535)
    ∧ workedTable.knot 0 ≤ 40 ∧ 40 < workedTable.knot 40 ∧ 39 < workedTable.knot 0
    ∧ workedTable.knot 40 - 1 < workedTable.knot 40 ∧ workedTable.knot 0 ≤ workedTable.knot 40 - 1
    ∧ (-4000 : Int) ≤ -4000 ∧ (6000 : Int) ≤ 6000 ∧ (1000 : Nat) ≤ 1000 := by decide +kernel

theorem witness_ZonesMoveByMargin :
    (FogFields.noProfile.fog < FogFields.noProfile.act
      ∧ FogFields.noProfile.act < FogFields.noProfile.warn ∧ 0 ≤ FogFields.noProfile.hysteresis)
    ∧ (working.fcu.zones[(0 : Fin 4)].state ≠ .fog ∧ { FogZone.fresh with state := .fog }.state = .fog)
    ∧ (let s := working.setFcu { working.fcu with
          zones := working.fcu.zones.set 0 { FogZone.fresh with state := .fog } }
      s.fcu.zones[(0 : Fin 4)].state = .fog ∧ FogZone.fresh.state ≠ .fog)
    ∧ (working.fcu.zones[(1 : Fin 4)].state = .fog ↔ FogZone.fresh.state = .fog) := by decide +kernel

/-- The part with the three loop points, the subfloor point, and stand zone 0 with a profile. -/
def heated : State :=
  let reads := fun (role : Nat) (v : Int) => (⟨{ humidity with channel := role, role := role },
    { PointRuntime.fresh v with watch := .live, lastArrival := some 0 }⟩ : Point)
  let s := withPoint 1 (reads 21 120) (withPoint 2 (reads 22 3100) (withPoint 3 (reads 23 2100) working))
  let s := withPoint 4 (reads 24 50) (withPoint 5 (reads 13 1500) (withPoint 60 (fresh { zoneValve with
    role := 30 }) s))
  (withProfile (busyLink s)).setPrf { (withProfile s).prf with active := some 2 }

theorem heat_result {s : State} (h : s.hold = .working) :
    (ran .heatEvaluation s).hau.result = s.heatInputs.allocate := by
  rw [(exec_heatEvaluation h (exec_ran _ _)).2]

theorem witness_HeatEvaluationPublishes :
    (working.hold = .working ∧ working.readRole 21 = none ∧ working.prf.active = none)
    ∧ (heated.hold = .working ∧ heated.readRole 21 = some (120, true)
      ∧ heated.readRole 22 = some (3100, true) ∧ heated.readRole 23 = some (2100, true)
      ∧ heated.readRole 24 = some (50, true) ∧ heated.readRole 13 = some (1500, true)
      ∧ heated.prf.active = some 2)
    ∧ (let r := (ran .heatEvaluation heated).hau.result
      r.zones[(0 : Fin 8)].takesPart = true ∧ r.zones[(1 : Fin 8)].takesPart = false
        ∧ r.loop = .complete) := by
  rw [heat_result rfl]; decide +kernel

theorem witness_HeatIsSharedInOrder : ∃ t u : State,
    exec .heatEvaluation heated = .next t ∧ exec .heatEvaluation (busyLink working) = .next u
    ∧ t.hau.result.short = true ∧ u.hau.result.short = false
    ∧ heated.hold = .working ∧ heated.hau.result.short = false ∧ heated.ntu.levels[(9 : Fin 18)] ≠ 0
    ∧ heated.supervisor.line.sending ≠ none := by
  refine ⟨_, _, exec_ran _ _, exec_ran _ _, ?_, ?_, by decide +kernel⟩
  · exact (congrArg AllocationResult.short (heat_result rfl)).trans (by decide +kernel)
  · exact (congrArg AllocationResult.short (heat_result rfl)).trans (by decide +kernel)

/-- The same part with another filtered budget. -/
def filtered (budget : Nat) : State := heated.setHau { heated.hau with first := false, budget := budget }

theorem witness_FilteredBudgetFollowsHeat : (heated.hau.first = true ∧ heated.hau.budget ≤ 65535)
    ∧ (∀ q ∈ [4793, 4807, 65535], ∃ t : State, exec .heatEvaluation (filtered q) = .next t
      ∧ t.hau.result.heat = 4800 ∧ (filtered q).hold = .working ∧ (filtered q).hau.first = false
      ∧ (filtered q).hau.budget = q) := by
  refine ⟨by decide +kernel, fun q _ => ⟨_, exec_ran _ _, ?_, rfl, rfl, rfl⟩⟩
  exact (congrArg AllocationResult.heat (heat_result rfl)).trans
    (show (heated.recovered).1 = 4800 by decide +kernel)

theorem witness_CueFrameMergesAndMarks : working.hold = .working
    ∧ working.cue.refreshCount + 1 < 3 ∧ 3 ≤ { working.cue with refreshCount := 2 }.refreshCount + 1 := by
  decide +kernel

/-- SHOW in the fade of the cue above, with its length and count at given values. -/
def fading (length count : Nat) : State :=
  let s := (withCue plainCue working).startCue .showPlayback
  s.setPlayback .showPlayback { s.playback .showPlayback with
    fade := { (s.playback .showPlayback).fade with length := length, count := count } }

theorem witness_FadesMoveAtFrames :
    (working.playback .showPlayback).state ≠ .fading
    ∧ (let p := (fading 0 0).playback .showPlayback
      p.state = .fading ∧ p.fade.length = 0)
    ∧ (let p := (fading 4 2).playback .showPlayback
      p.state = .fading ∧ p.fade.length ≠ 0 ∧ p.fade.count + 1 < p.fade.length)
    ∧ (let p := (fading 4 3).playback .showPlayback
      p.fade.length ≠ 0 ∧ p.fade.length ≤ p.fade.count + 1)
    ∧ (0 < 80 ∧ 80 ≤ 80 ∧ 40 ≤ 200) := by decide +kernel

theorem witness_CuesStartAndComplete :
    (let e := working.cue
     plainCue.startFault e = none ∧ CueRecord.zero.startFault e = some 1
       ∧ { plainCue with start := 255 }.startFault e = some 2
       ∧ { plainCue with form := 1, spanIndex := 511, spanCount := 2 }.startFault e = some 3
       ∧ { plainCue with source := 1, sceneIndex := 4095 }.startFault e = some 4
       ∧ { plainCue with source := 1, sceneIndex := 4094 }.startFault e = none
       ∧ { plainCue with start := 254 }.startFault e = none)
    ∧ ({ plainCue with form := 1, spanCount := 2 }.spanIndex + 2 ≤ 512 ∧ (0 : Nat) < 2)
    ∧ ((fading 4 3).playback .showPlayback).current = some 0
    ∧ (plainCue.update = 0 ∧ plainCue.form = 0) := by decide +kernel

theorem witness_SeeksAndSettling :
    (let s := withValve (drive .ready 9 9) working
     s.hold = .working ∧ (s.valve 0).state ≠ .seeking ∧ (s.valve 0).state ≠ .settling
       ∧ (s.valve 0).state = .ready ∧ (s.valve 0).slot = .empty
       ∧ min (s.valve 0).config.travel 9 = (s.valve 0).position
       ∧ min (s.valve 0).config.travel 481 ≠ (s.valve 0).position)
    ∧ (let v := (withValve (drive .seeking 9 10) working).valve 0
      v.state = .seeking ∧ v.position ≠ v.target ∧ v.position + 1 = v.target)
    ∧ (let v := (withValve (drive .seeking 12 10) working).valve 0
      v.state = .seeking ∧ v.position - 1 ≠ v.target)
    ∧ (let v := (withValve { drive .settling 9 9 with slot := .target 9 } working).valve 0
      v.state = .settling ∧ v.config.settle ≠ 0 ∧ v.slot = .target 9 ∧ 9 = v.position ∧ 10 ≠ v.position)
    ∧ (Valve.powerOn false false false).config.settle = 0
    ∧ (let v := (withValve { drive (.homing .search) 9 9 with slot := .home } working).valve 0
      v.state.isHoming = true ∧ v.slot = .home)
    ∧ (working.valve 0).state = .unhomed := by decide +kernel

theorem witness_HomeRunsSearchAndSeat :
    (let s := withValve { drive (.homing .search) 9 9 with searchCount := 538 } working
     s.hold = .working ∧ (s.valve 0).state = .homing .search
       ∧ (s.valve 0).searchCount + 1 < (s.valve 0).config.travel + (s.valve 0).config.travel / 8
       ∧ (s.valve 0).config.seat ≠ 0 ∧ (s.valve 0).closed = false
       ∧ (s.valve 0).config.travel + (s.valve 0).config.travel / 8 ≤ 539 + 1)
    ∧ (withValve (drive (.homing .searchEnding) 9 9) working |>.valve 0).state = .homing .searchEnding
    ∧ (withValve (drive (.homing (.seat 8)) 9 9) working |>.valve 0).state = .homing (.seat 8)
    ∧ ((Valve.powerOn true false false).closed = true ∧ (Valve.powerOn true false false).config.seat = 0
      ∧ (Valve.powerOn true false false).config.settle = 0 ∧ (drive .ready 0 0).config.settle ≠ 0)
    ∧ ((working.valve 0).state = .unhomed ∧ (working.valve 0).config.autoHome = false
      ∧ ∀ phase : HomePhase, (working.valve 0).state ≠ .homing phase) := by
  refine ⟨by decide +kernel, by decide +kernel, by decide +kernel, by decide +kernel,
    by decide +kernel, by decide +kernel, ?_⟩
  intro phase
  rw [show (working.valve 0).state = .unhomed by decide +kernel]
  exact fun h => by cases h

theorem witness_ClosedStopActs :
    (∀ v ∈ [drive (.homing .search) 9 9, drive .seeking 1 0, drive .settling 1 1, drive .ready 1 1,
        { drive .seeking 1 9 with toOpen := true }, drive .ready 0 0, drive .unhomed 5 5,
        drive .manual 5 5, drive .fault 5 5, drive (.homing (.seat 3)) 9 9],
      let s := withValve v working
      s.hold = .working ∧ s.vdu.linesPlaced = true ∧ s.valve 0 = v ∧ v.closed = false)
    ∧ (drive .seeking 1 0).toOpen = false ∧ (drive .seeking 1 0).position ≠ 0
    ∧ (State.reset.hold ≠ .working ∧ working.vdu.linesPlaced = false ∧ (working.valve 0).closed = false)
    ∧ (Valve.powerOn true false false).closed = true := by decide +kernel

theorem witness_HandAndFaultLinesAct :
    (let s := withValve { drive .manual 5 5 with man := true, dflt := true } working
     s.hold = .working ∧ s.vdu.linesPlaced = true ∧ (s.valve 0).man = true
       ∧ (s.valve 0).state = .manual ∧ (s.valve 0).dflt = true)
    ∧ (let s := withValve (drive .seeking 5 9) working
      (s.valve 0).man = false ∧ (s.valve 0).dflt = false ∧ (s.valve 0).state ≠ .manual)
    ∧ ((withValve (drive .manual 5 5) working).valve 0).dflt = false
    ∧ ¬(State.reset.hold = .working ∧ State.reset.vdu.linesPlaced = true) := by decide +kernel

theorem witness_PulsesAndPlacing :
    (let s := withValve { drive .fault 5 5 with clearing := true } working
     let u := s.setMgr { s.mgr with inHand := some ⟨200#8, 1#8, 0⟩ }
     u.hold = .working ∧ (u.valve 0).clearing = true ∧ u.mgr.inHand = some ⟨200#8, 1#8, 0⟩
       ∧ (u.valve 0).state = .fault ∧ (u.valve 0).dflt = false)
    ∧ ({ drive .fault 5 5 with dflt := true }.dflt = true ∧ (drive .manual 5 5).state ≠ .fault)
    ∧ (working.hold = .working ∧ (working.valve 0).clearing = false
      ∧ working.vdu.linesPlaced = false
      ∧ (withValve (drive .ready 0 0) working).vdu.linesPlaced = true)
    ∧ (let s := (working.setValve 1 (.powerOn false true true)).setValve 2 (.powerOn false false true)
      (s.valve 1).man = true ∧ (s.valve 2).man = false ∧ (s.valve 2).dflt = true
        ∧ (s.valve 3).man = false ∧ (s.valve 3).dflt = false ∧ (s.valve 3).state = .unhomed
        ∧ ∀ c : Fin 4, (s.valve c).man = true ∨ (s.valve c).dflt = true
          ∨ (s.valve c).state = .unhomed)
    ∧ ((drive .ready 5 5).state ≠ .unhomed ∧ (drive .ready 5 5).config.autoHome = false
      ∧ (drive .ready 5 5).man = false ∧ (drive .ready 5 5).dflt = false) := by decide +kernel

theorem working_attends : working.attends := ⟨rfl, rfl, rfl, rfl⟩

/-- MGR with a REPLY in the slot and some requests waiting. -/
def answering (queue : List Telegram) : State :=
  working.setMgr { working.mgr with slot := some longest, queue := queue }

theorem witness_RequestsAreTakenInTurn : working.attends
    ∧ encodeRequest (.go (request [1])) = some (200#8, [6#8, 7#8, 1#8])
    ∧ State.reset.hold ≠ .working
    ∧ ((answering []).hold = .working ∧ (answering []).mgr.slot ≠ none
      ∧ (answering (.replicate 3 longest)).mgr.queue.length < 4
      ∧ 4 ≤ (answering (.replicate 4 longest)).mgr.queue.length)
    ∧ (let s := working.setMgr { working.mgr with queue := [longest] }
      s.mgr.inHand = none ∧ s.mgr.slot = none ∧ s.mgr.queue = longest :: []) :=
  ⟨working_attends, by decide +kernel, by decide, by decide +kernel, by decide +kernel⟩

theorem witness_RefusalsChangeNothing :
    encodeRequest (.setSearch (request [2])) = some (200#8, [15#8, 7#8, 2#8])
    ∧ encodeRequest (.unknownRequest 200#8 []) = some (200#8, [])
    ∧ (∀ r : Request, Instr.setSearch (request [2]) ≠ .go r ∧ Instr.setSearch (request [2]) ≠ .validate r)
    ∧ status (ran (.setSearch (request [2])) working) = Status.badValue.code
    ∧ ((request [41, 0, 0]).operands.length = 3 ∧ (request [41, 0]).operands.length ≠ 3
      ∧ 41 ≤ ((request [41, 0, 0]).operands.take 1).foldl (fun a b => 256 * a + b.toNat) 0)
    ∧ ((request [0, 32, 42, 0, 10]).operands = 0#8 :: 32#8 :: [42#8, 0#8, 10#8]
      ∧ 32 ≤ (32#8 : Byte).toNat)
    ∧ ((request [13, 0, 0]).operands = 13#8 :: [0#8, 0#8] ∧ (12 : Nat) < (13#8 : Byte).toNat)
    ∧ (((10#8 : Byte).toNat, 2, 512) ∈ [(10, 2, 512)]
      ∧ 512 ≤ [(2#8 : Byte), 0#8].foldl (fun a b => 256 * a + b.toNat) 0) := by
  refine ⟨by decide +kernel, by decide +kernel, fun r => ⟨?_, ?_⟩, by decide +kernel, by decide +kernel,
    by decide +kernel, by decide +kernel, by decide +kernel⟩ <;>
    (intro h; cases h)

theorem witness_WrittenFieldsReadBack : working.CuesSound
    ∧ (∀ x ∈ [((4#8 : Byte), [0#8], [2#8, 88#8]), (11#8, [15#8, 255#8], [77#8]),
        (10#8, [1#8, 255#8], [9#8, 1#8, 0#8]), (13#8, [17#8], [7#8])],
      x.1.toNat ≤ 13
      ∧ x.2.1.length = (if x.1 = 1#8 ∨ x.1 = 10#8 ∨ x.1 = 11#8 then 2 else 1)
      ∧ (working.carryOut (decodeRequest 200#8 (1#8 :: 7#8 :: x.1 :: (x.2.1 ++ x.2.2)))).mgr.slot
        = some ⟨200#8, working.ownAddress, 0x11#8, [1#8, 7#8, 0#8]⟩)
    ∧ [17#8] = [byteOf (17 : Fin 18).val] :=
  ⟨witness_CuesAndCapturesStaySound.1, by decide +kernel, rfl⟩

/-- The bytes of operands that stand for the least and the greatest of each field in range. -/
theorem witness_SettingsAreWritten : working.attends
    ∧ ((request [1, 50, 1]).operands = [1#8, 50#8, 1#8] ∧ (request [0, 1, 0]).operands = [0#8, 1#8, 0#8])
    ∧ ((request [40, 255, 255]).operands = [byteOf (40 : Fin 41).val, 255#8, 255#8]
      ∧ working.fcu.valid = false ∧ foggy.fcu.valid = true)
    ∧ ((request [0, 2, 88]).operands = [0#8, 2#8, 88#8] ∧ 256 * 2 + 88 = 600)
    ∧ ((request [0, 3, 232, 0, 1, 78, 32]).operands = [0#8, 3#8, 232#8, 0#8, 1#8, 78#8, 32#8]
      ∧ 256 * 3 + 232 = 1000 ∧ 256 * 78 + 32 = 20000 ∧ working.hau.qStage = 1
      ∧ 256 * 7 + 208 ≠ working.hau.qStage)
    ∧ ((request [4, 78, 32]).operands = [byteOf (1 + (3 : Fin 4).val), 78#8, 32#8]
      ∧ (request [12, 3, 232, 7, 208]).operands
        = [byteOf (5 + (7 : Fin 8).val), 3#8, 232#8, 7#8, 208#8])
    ∧ ((request [255, 7, 0]).operands = [byteOf (255 : Fin 256).val, 7#8, 0#8]
      ∧ (7#8 : Byte).toNat = (7 : Fin 8).val ∧ 8 ≤ (254#8 : Byte).toNat)
    ∧ ((request [17, 0]).operands = [byteOf (17 : Fin 18).val, 0#8]
      ∧ (request [0, 7]).operands = [byteOf (0 : Fin 18).val, 7#8]) :=
  ⟨working_attends, by decide +kernel⟩

/-- A record of point 255 with every field at its least, in use or not. -/
def leastPoint (inUse direction : Nat) : Request :=
  request ([255, inUse, direction, 1, 0, 0] ++ List.replicate 10 0 ++ [0, 1, 0, 0, 0, 0, 0, 0, 0, 0, 1])

/-- Point records with every field at the least and at the greatest of its range. -/
def boundPoints : List PointConfig :=
  [⟨true, 0, 1, 0, 1, -32768, -32768, -32768, -32768, 0, 1, 0, 0, 0, 0, 1⟩,
   ⟨true, 0, 126, 255, 27, 32767, 32767, 32767, 32767, 32767, 3600, 3600, 0, 1, 3600, 600⟩,
   ⟨true, 1, 126, 255, 28, 0, 0, 0, 0, 0, 1, 0, 0, 0, 0, 1⟩,
   ⟨true, 1, 126, 255, 38, 0, 0, 0, 0, 0, 1, 0, 0, 0, 0, 1⟩]

/-- Profiles, cue records and descriptors at the bounds of their ranges. -/
def boundProfiles : List Profile :=
  [⟨-2000, 0, -498, -499, -500, 0, 1, 1, 0, 0, 0, 0, 0, 0, 0, 0, 0, true⟩,
   ⟨2000, 20000, 1000, 999, 998, 500, 4, 4, 4, 3000, 3000, 255, 2, 1, 20000, 255, 1, true⟩]

@[inherit_doc boundProfiles] def boundCues : List CueRecord :=
  [⟨0, 0, 0, 0, 0, 1, 0, 1, 0, 0, 0, 0, 0, 0, 0, 0, 0, 0, 0⟩,
   ⟨255, 1, 1, 0, 255, 256, 15, 255, 0, 0, 0, 1, 4095, 0, 1, 255, 255, 1, -128⟩,
   ⟨255, 1, 1, 2, 0, 0, 0, 0, 255, 511, 64, 0, 0, 255, 1, 255, 255, 2, -127⟩,
   ⟨0, 0, 0, 1, 0, 0, 0, 0, 0, 0, 1, 0, 0, 0, 0, 0, 0, 2, 127⟩]

@[inherit_doc boundProfiles] def boundDescriptors : List Descriptor :=
  [⟨0, 255, 4095, 1, 0, 4096, 1, 1, 0, 0, 1⟩, ⟨3, 0, 0, 4096, 1, 4096, 0, 0, 0, 255, 0⟩,
   ⟨1, 3, 0, 1, 0, 1, 0, 0, 0, 0, 0⟩, ⟨5, 3, 0, 1, 1, 1, 0, 0, 1, 3, 0⟩]

/-- R42, R127, R150, R160: the records at the bounds are in range, and each of these is one beyond. -/
theorem witness_bounds_of_records :
    (∀ c ∈ boundPoints, Layout.parse (1 :: pointLayout) (255#8 :: Layout.emit pointLayout c.fields)
        = some ((255 : Fin 256).val :: 1 :: c.fields.tail)
      ∧ PointConfig.ofFields (1 :: c.fields.tail) = some c ∧ c.ok = true)
    ∧ (∀ c ∈ [{ humidity with station := 0 }, { humidity with station := 127 },
        { humidity with deadband := 32768 }, { humidity with staleAfter := 0 },
        { humidity with staleAfter := 3601 }, { humidity with holdTime := 3601 },
        { humidity with refresh := 601 }, { humidity with overrideTime := 3601 },
        { humidity with role := 28 }, { humidity with spanLow := 1, spanHigh := 0 }], c.ok = false)
    ∧ (∀ p ∈ boundProfiles, Layout.parse (1 :: profileLayout)
          (7#8 :: Layout.emit profileLayout p.fields) = some ((7 : Fin 8).val :: p.fields)
        ∧ Profile.ofFields p.fields = some p ∧ p.ok = true)
    ∧ (∀ p ∈ [{ hockey with subfloorSetpoint := 2001 }, { hockey with fog := -501 },
        { hockey with hysteresis := 501 }, { hockey with actStage := 0 },
        { hockey with stageCap := 1 }, { hockey with fog := 150 }, { hockey with boilerLevel := 3 }],
      p.ok = false)
    ∧ (∀ c ∈ boundCues, Layout.parse (1 :: cueLayout) (255#8 :: Layout.emit cueLayout c.fields)
        = some ((255 : Fin 256).val :: c.fields) ∧ CueRecord.ofFields c.fields = some c ∧ c.ok = true)
    ∧ (∀ c ∈ [{ plainCue with width := 0 }, { plainCue with repeats := 16 },
        { plainCue with stride := 0 }, { plainCue with form := 3 }, { plainCue with form := 1 },
        { plainCue with source := 1, sceneIndex := 4096 }, { plainCue with update := 2, step := -128 },
        { plainCue with update := 1, step := 128 }], c.ok = false)
    ∧ (∀ d ∈ boundDescriptors, Layout.parse (1 :: descriptorLayout)
          (7#8 :: Layout.emit descriptorLayout d.fields) = some ((7 : Fin 8).val :: d.fields)
        ∧ Descriptor.ofFields d.fields = some d ∧ d.ok = true)
    ∧ (∀ d ∈ [{ linear with sourceNumber := 1 }, { linear with base := 4093 },
        { linear with length := 0 }, { linear with count := 0 }, { linear with mode := 2 },
        { linear with sourceKind := 6 }, { ring with count := 5 }, { ring with triggerNumber := 4 },
        { ring with sourceNumber := 4 }], d.ok = false) := by decide +kernel

theorem witness_RecordsAreWritten : working.attends ∧ working.CuesSound
    ∧ (∀ x ∈ [(0, 0), (1, 0), (1, 2), (2, 0)], ∃ c : PointConfig,
      Layout.parse (1 :: pointLayout) (leastPoint x.1 x.2).operands
        = some ((255 : Fin 256).val :: x.1 :: c.fields.tail)
      ∧ PointConfig.ofFields (x.1 :: c.fields.tail) = some c ∧ (c.ok = true ↔ x.2 = 0))
    ∧ ((live17.config 17).inUse = true ∧ (live17.config 17).station = humidity.station
      ∧ (live17.config 17).channel = humidity.channel ∧ humidity.ok = true)
    ∧ ((request [1, 31, 126, 2, 88]).operands = [1#8, byteOf (31 : Fin 32).val, 126#8, 2#8, 88#8]
      ∧ (126#8 : Byte).toNat ≤ 126 ∧ 256 * 2 + 88 = 600
      ∧ freePort.polls[(0 : Fin 32)].station = 42
      ∧ (some 42#8 : Option Byte).map BitVec.toNat = some 42)
    ∧ ((request [3, 15, 160, 2, 0, 0, 1, 1]).operands
        = [byteOf (3 : Fin 4).val, 15#8, 160#8, 2#8, 0#8, 0#8, 1#8, 1#8] ∧ 256 * 15 + 160 = 4000
      ∧ min (working.valve 3).position 4000 = (working.valve 3).position
      ∧ min (drive .ready 20 20).position 16 ≠ (drive .ready 20 20).position
      ∧ (drive .settling 0 0).state = .settling)
    ∧ (Layout.parse (1 :: profileLayout) ((7#8 : Byte) :: Layout.emit profileLayout hockey.fields)
        = some ((7 : Fin 8).val :: hockey.fields) ∧ Profile.ofFields hockey.fields = some hockey
      ∧ hockey.ok = true ∧ { hockey with act := 300 }.ok = false)
    ∧ (Layout.parse (1 :: cueLayout) ((255#8 : Byte) :: Layout.emit cueLayout plainCue.fields)
        = some ((255 : Fin 256).val :: plainCue.fields)
      ∧ CueRecord.ofFields plainCue.fields = some plainCue
      ∧ plainCue.ok = true ∧ { plainCue with width := 257 }.ok = false
      ∧ (fading 4 0).cue.playbackShow.current = some 0
      ∧ (fading 4 0).cue.playbackShow.state = .fading)
    ∧ ((request [1, 255, 9, 1, 0]).operands
        = [byteOf ((511 : Fin 512).val / 256), byteOf (511 : Fin 512).val, 9#8, 1#8, 0#8]
      ∧ (request [15, 255, 9]).operands
        = [byteOf ((4095 : Fin 4096).val / 256), byteOf (4095 : Fin 4096).val, 9#8])
    ∧ (Layout.parse (1 :: descriptorLayout) ((7#8 : Byte) :: Layout.emit descriptorLayout ring.fields)
        = some ((7 : Fin 8).val :: ring.fields) ∧ Descriptor.ofFields ring.fields = some ring
      ∧ ring.ok = true ∧ { ring with base := 4093 }.ok = false
      ∧ (capturing ring .armed 0 0).tcu.channels[(2 : Fin 8)].state = .armed) := by
  refine ⟨working_attends, witness_CuesAndCapturesStaySound.1, ?_, by decide +kernel,
    by decide +kernel, by decide +kernel, by decide +kernel, by decide +kernel, by decide +kernel,
    by decide +kernel⟩
  intro x hx
  refine ⟨⟨x.1 == 1, x.2, 1, 0, 0, 0, 0, 0, 0, 0, 1, 0, 0, 0, 0, 1⟩, ?_⟩
  revert x
  decide +kernel

theorem witness_ReadsReportWithoutChange : working.attends
    ∧ (working.config 255).inUse = false ∧ (live17.config 17).inUse = true :=
  ⟨working_attends, by decide +kernel⟩

theorem witness_ValidateJudgesTheTable : working.attends ∧ (request []).operands = []
    ∧ (1 ≤ workedTable.knot 0 ∧ ∀ i : Nat, i < 40 → workedTable.knot i < workedTable.knot (i + 1))
    ∧ ¬(1 ≤ working.fcu.knot 0)
    ∧ ((∀ i : Fin 41, foggy.fcu.knots[i] ≤ 65535) ∧ foggy.fcu.valid = true
      ∧ foggy.fcu.tableOk = true ∧ foggy.hold = .working ∧ foggy.fogInputs 0 ≠ none)
    ∧ (∃ t : State, step foggy = .next t) ∧ ∃ t : State, exec .fogEvaluation foggy = .next t :=
  ⟨working_attends, rfl, by decide +kernel, by decide +kernel, by decide +kernel,
    step_answers foggy, _, rfl⟩

theorem witness_PlaybacksAndProfilesObey : working.attends ∧ (withProfile working).attends
    ∧ ((request [1]).operands = [1#8] ∧ (request [7]).operands = [byteOf (7 : Fin 8).val])
    ∧ ((withProfile working).prf.profiles[(2 : Fin 8)].valid = true
      ∧ working.prf.profiles[(2 : Fin 8)].valid = false)
    ∧ ((ran (.go (request [0])) working).playback .showPlayback).state = .fault
    ∧ (working.playback .showPlayback).state ≠ .fault
    ∧ ((fading 4 0).cue.cues[(0 : Fin 256)].notify ≠ 1 ∧ { plainCue with notify := 1 }.notify = 1) :=
  ⟨working_attends, ⟨rfl, rfl, rfl, rfl⟩, by decide +kernel, by decide +kernel, by decide +kernel,
    by decide +kernel, by decide +kernel⟩

theorem witness_ValvesAndCapturesObey :
    (∀ v ∈ [drive .ready 0 0, drive .unhomed 0 0, drive .seeking 0 1, drive .settling 0 0,
        drive (.homing .search) 0 0, drive .manual 0 0, drive .fault 0 0],
      (withValve v working).hold = .working ∧ (withValve v working).mgr = working.mgr
        ∧ (withValve v working).valve 0 = v)
    ∧ working.attends ∧ (request [3]).operands = [byteOf (3 : Fin 4).val]
    ∧ (let s := withChannel (.written ring) working
      s.attends ∧ (request [2]).operands = [byteOf (2 : Fin 8).val]
        ∧ ¬(s.tcu.channels[(2 : Fin 8)].state = .armed ∨ s.tcu.channels[(2 : Fin 8)].state = .running)
        ∧ ring.length ≠ 0 ∧ ring.sourceKind ≠ 0 ∧ ring.triggerKind ≠ 0)
    ∧ ({ ring with sourceKind := 0, sourceNumber := 17 }.sourceKind = 0
      ∧ (live17.config 17).inUse = true ∧ (live17.config 18).inUse = false)
    ∧ (let d := { ring with base := 1003 }
      (capturing ring .running 1000 3).tcu.channels[(2 : Fin 8)].active = true
        ∧ d.base < ring.base + ring.length ∧ ring.base < d.base + d.length
        ∧ ¬({ ring with base := 1004 }.base < ring.base + ring.length))
    ∧ ring.notify = 1 :=
  ⟨by decide +kernel, working_attends, by decide +kernel,
    ⟨⟨rfl, rfl, rfl, rfl⟩, by decide +kernel⟩, by decide +kernel, by decide +kernel, by decide +kernel⟩

theorem witness_BoilerLimitIsStored : working.attends ∧ (request [2]).operands = [2#8]
    ∧ (2#8 : Byte).toNat ≤ 2 ∧ 2 < (3#8 : Byte).toNat
    ∧ ((withProfile working).takeSelection 2 1).prf.active = some 2 :=
  ⟨working_attends, by decide +kernel⟩

theorem witness_PortsAndThresholdObey : working.attends
    ∧ (∀ b ∈ [0#8, 1#8, 2#8, 3#8, 7#8, 8#8], (request [b.toNat]).operands = [b])
    ∧ ((request [2, 3, 15, 255]).operands = [2#8, byteOf (3 : Fin 4).val, 15#8, 255#8]
      ∧ 256 * 15 + 255 ≤ 4095 ∧ 4095 < 256 * 16 + 0 ∧ 3 < (4#8 : Byte).toNat)
    ∧ (working.field .plant).line.sending = none
    ∧ (let s := ran (.portQuiet .bowl) working
      s.attends ∧ (s.field .bowl).line.sending ≠ none) :=
  ⟨working_attends, by decide +kernel, by decide +kernel, by decide +kernel,
    ⟨by decide +kernel, by decide +kernel, by decide +kernel, by decide +kernel⟩, by decide +kernel⟩

theorem witness_ResetCauseIsRecorded :
    (∃ t u v : State, exec .powerOn working = .next t ∧ exec (.workStart 5#7) t = .next u
      ∧ exec .lineReset u = .next v)
    ∧ (working.hold = .working ∧ working.attends ∧ (request []).operands = [])
    ∧ (∃ (s t : State) (x : Sending), s.hold = .working ∧ s.supervisor.line.sending = some x
      ∧ x.kind = .reply ∧ s.mgr.restarting = true
      ∧ exec (.transmissionEnd .supervisor) s = .next t) := by
  refine ⟨⟨_, _, _, rfl, rfl, rfl⟩, ⟨by decide, working_attends, rfl⟩, ran (.restart (request []))
    working, _, { sending .reply ⟨200#8, 126#8, 0x11#8, [18#8, 7#8, 0#8]⟩ 12672 with divisor := 7 },
    by decide +kernel,
    by decide +kernel, rfl, by decide +kernel, rfl⟩

theorem witness_ResetsAndWorkStart : State.reset.hold = .powerOn ∧ working.hold = .working
    ∧ (ran .lineReset working).hold = .lineReset ∧ working.attends ∧ (request []).operands = []
    ∧ ((Valve.powerOn false true false).man = true ∧ (Valve.powerOn false false true).dflt = true
      ∧ (drive .manual 0 0).man = false ∧ (drive .manual 0 0).state = .manual
      ∧ (drive .ready 0 0).state ≠ .manual)
    ∧ (live17.config 17).inUse = true
    ∧ ((fading 4 0).playback .showPlayback).state = .fading
    ∧ ((fading 4 0).playback .showPlayback).current = some 0 :=
  ⟨rfl, rfl, by decide +kernel, working_attends, rfl, by decide +kernel⟩

end Sys2Proof.Tests
end

section
/-! PROOFS. The saturation table and its validity flag (R62, R63): what VALIDATE judges, which operations
touch the table at all, and that no step leaves the flag set over a table that fails. -/

namespace Sys2Proof.Machine

/-! ### The table and its verdict -/

/-- What R63 speaks of in FCU's record: the knots and the validity flag. -/
def Fcu.table (f : Fcu) : Vector Nat 41 × Bool := (f.knots, f.valid)

/-- The knots are in R62's range, and a set flag means a passing table (R63). -/
structure Fcu.TableSound (f : Fcu) : Prop where
  inRange : ∀ i : Fin 41, f.knots[i] ≤ 65535
  passes  : f.valid = true → f.tableOk = true

/-- R63's criterion as the rule states it. -/
theorem Fcu.tableOk_iff (f : Fcu) :
    f.tableOk = true ↔ 1 ≤ f.knot 0 ∧ ∀ i : Nat, i < 40 → f.knot i < f.knot (i + 1) := by
  simp [Fcu.tableOk]

/-- Every knot of a passing table is at least 1: they rise from the first. -/
theorem Fcu.one_le_knot {f : Fcu} (h : f.tableOk = true) (i : Nat) (hi : i < 41) : 1 ≤ f.knot i := by
  obtain ⟨first, rises⟩ := f.tableOk_iff.mp h
  induction i with
  | zero => exact first
  | succ i ih =>
    have before := ih (by omega)
    have rise := rises i (by omega)
    omega

/-- Every interval of a passing table is at least 1, as R70 divides by it. -/
theorem Fcu.one_le_interval {f : Fcu} (h : f.tableOk = true) (i : Nat) (hi : i < 40) :
    1 ≤ f.knot (i + 1) - f.knot i := by
  have rise := (f.tableOk_iff.mp h).2 i hi
  omega

/-- Soundness depends on nothing of the record but knots and flag. -/
theorem Fcu.TableSound.congr {f g : Fcu} (h : f.TableSound) (e : g.table = f.table) : g.TableSound := by
  obtain ⟨hk, hv⟩ : g.knots = f.knots ∧ g.valid = f.valid := Prod.mk.inj e
  have knot : g.knot = f.knot := funext fun i => by simp only [Fcu.knot, hk]
  have ok : g.tableOk = f.tableOk := by simp only [Fcu.tableOk, knot]
  exact ⟨by simpa only [hk] using h.inRange, by rw [hv, ok]; exact h.passes⟩

/-- A cleared flag claims nothing: only the knots' range is left to show. -/
theorem Fcu.TableSound.of_invalid {f : Fcu} (hk : ∀ i : Fin 41, f.knots[i] ≤ 65535)
    (hv : f.valid = false) : f.TableSound :=
  ⟨hk, fun h => absurd (hv.symm.trans h) (by decide)⟩

/-! ### Operations on FCU's record that leave the table alone -/

/-- R75 writes the demands. -/
@[simp] theorem Fcu.formDemand_table (f : Fcu) : f.formDemand.table = f.table := rfl

/-- R76 writes the stage and the time of its last change. -/
@[simp] theorem Fcu.stepStage_table (f : Fcu) (now : Nat) : (f.stepStage now).table = f.table := by
  unfold Fcu.stepStage
  (repeat' split) <;> rfl

@[simp] theorem State.setZone_table (s : State) (i : Fin 4) (z : FogZone) :
    (s.setZone i z).fcu.table = s.fcu.table := by
  rw [State.setZone_fcu]; rfl

@[simp] theorem State.clearZones_table (s : State) (l : List (Fin 4)) :
    (l.foldl State.clearZone s).fcu.table = s.fcu.table :=
  foldl_keeps (fun s => s.fcu.table) _ (fun _ _ => State.setZone_table _ _ _) _ _

@[simp] theorem State.recomputeStage_table (s : State) :
    s.recomputeStage.fcu.table = s.fcu.table := by
  rw [State.recomputeStage_fcu]; rfl

@[simp] theorem State.fogStages_table (s : State) : s.fogStages.fcu.table = s.fcu.table := by
  rw [State.fogStages_fcu, Fcu.stepStage_table, Fcu.formDemand_table]; rfl

@[simp] theorem State.writeFan_table (s : State) : s.writeFan.fcu.table = s.fcu.table := by
  rw [State.writeFan_fcu]; rfl

@[simp] theorem State.fogEvaluation_table (s : State) :
    s.fogEvaluation.fcu.table = s.fcu.table := by
  simp only [State.fogEvaluation, State.sampleZones_keeps, State.writeFan_table]
  split <;> simp only [State.recomputeStage_table, State.fogStages_table] <;> rfl

@[simp] theorem State.heatEvaluation_table (s : State) :
    s.heatEvaluation.fcu.table = s.fcu.table := by
  simp only [State.heatEvaluation, State.publish, State.followResult_keeps,
    State.recomputeStage_table]
  rfl

/-- R78: a write of the heat constants recomputes the effective stage. -/
@[simp] theorem State.storeConstants_table (s : State) (k q cap : Nat) :
    (s.storeConstants k q cap).fcu.table = s.fcu.table :=
  State.recomputeStage_table _

@[simp] theorem State.storeHeatPart_table (s : State) (part : Nat) (fields : List Nat) :
    (s.storeHeatPart part fields).state.fcu.table = s.fcu.table := by
  simp only [State.storeHeatPart, State.checked, State.refuse, State.doneAs]
  (repeat' split) <;> simp

@[simp] theorem State.writeHeatPart_table (s : State) (operands : List Byte) :
    (s.writeHeatPart operands).state.fcu.table = s.fcu.table := by
  simp only [State.writeHeatPart, State.refuse]
  (repeat' split) <;> simp

/-- R64 writes the dwell time. -/
@[simp] theorem State.writeFog_table (s : State) (operands : List Byte) :
    (s.writeFog operands).state.fcu.table = s.fcu.table := by
  simp only [State.writeFog, State.indexed, State.checked, State.refuse, State.doneAs]
  (repeat' split) <;> rfl

@[simp] theorem State.startTimers_table (s : State) : s.startTimers.fcu.table = s.fcu.table := rfl

/-- R83, R84: a line or supervisor reset keeps the table and its flag. -/
@[simp] theorem State.warmReset_table (s : State) : s.warmReset.fcu.table = s.fcu.table := by
  have restarted : s.warmReset.fcu.table = (s.resetCue s.now).fcu.table := rfl
  rw [restarted]; simp only [State.resetCue_keeps]

@[simp] theorem State.supervisorReset_table (s : State) :
    s.supervisorReset.fcu.table = s.fcu.table := by
  simp only [State.supervisorReset, State.readAllLines_keeps, State.setMgr_fcu,
    State.startTimers_table, State.warmReset_table]

@[simp] theorem State.lineReset_table (s : State) : s.lineReset.fcu.table = s.fcu.table :=
  State.warmReset_table s

@[simp] theorem State.beginWork_table (s : State) (straps : BitVec 7) (kind : Nat) :
    (s.beginWork straps kind).fcu.table = s.fcu.table := by
  simp only [State.beginWork, State.raise_keeps, State.setHold_fcu, State.setMgr_fcu,
    State.startTimers_table]

@[simp] theorem State.workStart_table (s : State) (straps : BitVec 7) :
    (s.workStart straps).fcu.table = s.fcu.table := by
  unfold State.workStart
  split <;> simp

/-! ### Operations that write the table -/

/-- R83: power-on clears every knot and the flag. -/
theorem State.powerOn_tableSound (s : State) : s.powerOn.fcu.TableSound :=
  .of_invalid (by decide : ∀ i : Fin 41, Fcu.powerOn.knots[i] ≤ 65535) rfl

/-- R62: a knot write stores one pressure and clears the flag. -/
theorem State.writeKnot_table (s : State) (i : Fin 41) (pressure : Nat) :
    (s.writeKnot i pressure).fcu.table = (s.fcu.knots.set i pressure, false) := by
  simp only [State.writeKnot]
  split
  · rw [State.clearZones_table]; rfl
  · rfl

/-- R62: a knot write within the range of two bytes. -/
theorem State.writeKnot_tableSound {s : State} (h : s.fcu.TableSound) (i : Fin 41) {pressure : Nat}
    (hp : pressure < 65536) : (s.writeKnot i pressure).fcu.TableSound := by
  refine .congr (f := { s.fcu with knots := s.fcu.knots.set i pressure, valid := false }) ?_
    (s.writeKnot_table i pressure)
  refine .of_invalid (fun j => ?_) rfl
  rw [vector_get_set]
  split
  · omega
  · exact h.inRange j

/-- R62: a WRITE_ENTRY of a knot; its operand is two bytes. -/
theorem State.writeKnotEntry_tableSound {s : State} (h : s.fcu.TableSound) (operands : List Byte) :
    (s.writeKnotEntry operands).state.fcu.TableSound := by
  unfold State.writeKnotEntry State.indexed
  split
  · rename_i i fields parsed
    split
    · dsimp only
      split
      · exact State.writeKnot_tableSound h _ (Layout.parse_lt _ _ _ parsed _ (by simp))
      · exact h
    · exact h
  · exact h

/-- R63: the flag is set on a passing table alone. -/
theorem State.validateTable_tableSound {s : State} (h : s.fcu.TableSound) :
    s.validateTable.state.fcu.TableSound := by
  unfold State.validateTable
  split
  · rename_i ok
    exact ⟨h.inRange, fun _ => ok⟩
  · exact .of_invalid h.inRange rfl

/-! ### Requests -/

/-- Placing a REPLY leaves FCU as the answer has it. -/
@[simp] theorem Answer.place_fcu (a : Answer) (code : Byte) (r : Request) :
    (a.place code r).fcu = a.state.fcu := by
  simp only [Answer.place, State.reply_keeps]

/-- Every request keeps the table sound. Two write it, a knot write and VALIDATE, and two more write other
fields of FCU; the rest leave FCU alone. -/
theorem State.carryOut_tableSound {s : State} (h : s.fcu.TableSound) (i : Instr) :
    (s.carryOut i).fcu.TableSound := by
  cases i
  case writeEntrySaturationKnot r =>
    simpa only [State.carryOut, Answer.place_fcu] using State.writeKnotEntry_tableSound h _
  case writeEntryFogConfiguration r => exact h.congr (by simp [State.carryOut])
  case writeEntryHeatPlantPart r => exact h.congr (by simp [State.carryOut])
  case validate r =>
    simp only [State.carryOut, Answer.place_fcu, State.bare]
    split
    · exact State.validateTable_tableSound h
    · exact h
  all_goals simpa [State.carryOut] using h

/-- R176: the request that MGR takes from its queue is one of the above. -/
theorem State.takeRequest_tableSound {s : State} (h : s.fcu.TableSound) :
    s.takeRequest.fcu.TableSound := by
  unfold State.takeRequest
  split
  · exact State.carryOut_tableSound (by simpa using h) _
  · exact h

/-- R15, R176: a REQUEST carried out at once, or taken from the queue. -/
theorem State.deliver_tableSound {s : State} (h : s.fcu.TableSound) (t : Telegram) (i : Instr) :
    (s.deliver t (fun u => u.carryOut i)).fcu.TableSound := by
  unfold State.deliver
  split
  · exact State.carryOut_tableSound h i
  · exact State.takeRequest_tableSound (by simpa using h)

/-! ### Receptions and ends of transmissions, which may carry out a request -/

theorem State.goodSupervisor_tableSound {s : State} (h : s.fcu.TableSound) (t : Telegram) :
    (s.goodSupervisor t).fcu.TableSound := by
  simp only [State.goodSupervisor]
  split
  · exact State.deliver_tableSound (by simpa using h) _ _
  · simpa using h

theorem State.completeTelegram_tableSound {s : State} (h : s.fcu.TableSound) (p : Port)
    (got : List Byte) : (s.completeTelegram p got).fcu.TableSound := by
  unfold State.completeTelegram
  split
  · cases p
    case supervisor => exact State.goodSupervisor_tableSound (by simpa using h) _
    all_goals simpa [State.goodTelegram] using h
  · simpa using h

theorem State.character_tableSound {s : State} (h : s.fcu.TableSound) (p : Port) (c : Character) :
    (s.character p c).fcu.TableSound := by
  unfold State.character
  split
  · simpa using h
  · split
    · simpa using h
    · exact h
    · simpa using h
    · unfold State.extend
      split
      · simpa using h
      · split
        · exact State.completeTelegram_tableSound h p _
        · simpa using h

theorem State.characterReceived_tableSound {s : State} (h : s.fcu.TableSound) (p : Port)
    (samples : List Bool) : (s.characterReceived p samples).fcu.TableSound := by
  unfold State.characterReceived
  split
  · exact h
  · split
    · exact h
    · refine State.character_tableSound ?_ p _
      simp only [State.markEnd_keeps]
      split <;> simpa using h

/-- R172: in either order MGR takes its next request. -/
theorem State.afterReply_tableSound {s : State} (h : s.fcu.TableSound) :
    s.afterReply.fcu.TableSound := by
  simp only [State.afterReply]
  split
  · exact h
  · split <;> exact State.takeRequest_tableSound (by simpa using h)

/-- R184: the end of RESTART's REPLY is a supervisor reset, which keeps the table. -/
theorem State.endReply_tableSound {s : State} (h : s.fcu.TableSound) :
    s.endReply.fcu.TableSound := by
  simp only [State.endReply]
  split
  · exact h.congr (by simp)
  · exact State.afterReply_tableSound h

theorem State.transmissionEnd_tableSound {s : State} (h : s.fcu.TableSound) (p : Port) :
    (s.transmissionEnd p).fcu.TableSound := by
  cases p
  case supervisor =>
    simp only [State.transmissionEnd, State.endUpTransmission]
    split
    · exact h
    · split
      · exact State.endReply_tableSound (by simpa using h)
      · simpa using h
  all_goals simpa [State.transmissionEnd] using h

/-! ### Commands and steps -/

/-- A request command delivers its REQUEST (R15, R176). -/
theorem exec_of_encode {i : Instr} {source : Byte} {body : List Byte}
    (h : encodeRequest i = some (source, body)) (s : State) :
    exec i s = s.request source body (fun u => u.carryOut i) := by
  cases i <;> cases h <;> rfl

/-- A request command in a part that attends is carried out at once (R176). -/
theorem exec_of_attends {s : State} (h : s.attends) {i : Instr} {source : Byte} {body : List Byte}
    (hi : encodeRequest i = some (source, body)) : exec i s = .next (s.carryOut i).arbitrate := by
  obtain ⟨working, inHand, slot, queue⟩ := h
  rw [exec_of_encode hi, State.request, State.work_of_working working,
    State.deliver_of_attends inHand slot queue]

/-- A command that acts while the part works keeps the table sound when its act does. -/
theorem State.work_tableSound (act : State → State) {s t : State} (h : s.fcu.TableSound)
    (ha : (act s).fcu.TableSound) (e : s.work act = .next t) : t.fcu.TableSound := by
  cases e
  simp only [State.arbitrate_keeps]
  split
  · exact ha
  · exact h

/-- An act that leaves the table alone. -/
theorem State.work_tableSound_of_table (act : State → State) {s t : State} (h : s.fcu.TableSound)
    (ha : (act s).fcu.table = s.fcu.table) (e : s.work act = .next t) : t.fcu.TableSound :=
  State.work_tableSound act h (h.congr ha) e

/-- The end of a step after a change that leaves the table alone. -/
theorem arbitrate_tableSound_of_table {s u t : State} (h : s.fcu.TableSound)
    (hu : u.fcu.table = s.fcu.table) (e : (.next u.arbitrate : Reaction) = .next t) :
    t.fcu.TableSound := by
  cases e
  simp only [State.arbitrate_keeps]
  exact h.congr hu

/-- Every request command keeps the table sound. -/
theorem exec_request_tableSound {c : Instr} {source : Byte} {body : List Byte} {s t : State}
    (hc : encodeRequest c = some (source, body)) (h : s.fcu.TableSound) (e : exec c s = .next t) :
    t.fcu.TableSound := by
  rw [exec_of_encode hc] at e
  exact State.work_tableSound _ h (State.deliver_tableSound h _ c) e

/-- Every command keeps the table sound. A reception and the end of a transmission may carry out a request,
and power-on writes the table; the other commands that are no requests leave it alone. -/
theorem exec_tableSound (c : Instr) (s t : State) (h : s.fcu.TableSound) (e : exec c s = .next t) :
    t.fcu.TableSound := by
  cases c
  case characterReceived p x =>
    exact State.work_tableSound (·.characterReceived p x) h (State.characterReceived_tableSound h p x) e
  case transmissionEnd p =>
    exact State.work_tableSound (·.transmissionEnd p) h (State.transmissionEnd_tableSound h p) e
  case powerOn => cases e; simpa using State.powerOn_tableSound s
  case workStart straps => exact arbitrate_tableSound_of_table h (s.workStart_table straps) e
  case closedAssert c => exact arbitrate_tableSound_of_table h (u := s.closedAssert c) (by simp) e
  case closedRelease c => exact arbitrate_tableSound_of_table h (u := s.closedRelease c) (by simp) e
  case manAssert c => exact arbitrate_tableSound_of_table h (u := s.manAssert c) (by simp) e
  case manRelease c => exact arbitrate_tableSound_of_table h (u := s.manRelease c) (by simp) e
  case dfltAssert c => exact arbitrate_tableSound_of_table h (u := s.dfltAssert c) (by simp) e
  case dfltRelease c => exact arbitrate_tableSound_of_table h (u := s.dfltRelease c) (by simp) e
  case lineReset => exact State.work_tableSound_of_table State.lineReset h (by simp) e
  case fogEvaluation => exact State.work_tableSound_of_table State.fogEvaluation h (by simp) e
  case heatEvaluation => exact State.work_tableSound_of_table State.heatEvaluation h (by simp) e
  case cueFrame => exact State.work_tableSound_of_table State.cueFrame h (by simp) e
  case inboundTelegramTake => exact State.work_tableSound_of_table State.takeInbound h (by simp) e
  case valveLinesPlaced => exact State.work_tableSound_of_table State.placeLines h (by simp) e
  case gapTimerExpiry p => exact State.work_tableSound_of_table (·.gapTimerExpiry p) h (by simp) e
  case portQuiet g => exact State.work_tableSound_of_table (·.portQuiet g) h (by simp) e
  case replyWindowExpiry g => exact State.work_tableSound_of_table (·.windowExpiry g) h (by simp) e
  case pollDue g i => exact State.work_tableSound_of_table (·.pollDue g i) h (by simp) e
  case staleExpiry i => exact State.work_tableSound_of_table (·.staleExpiry i) h (by simp) e
  case holdExpiry i => exact State.work_tableSound_of_table (·.holdExpiry i) h (by simp) e
  case refreshExpiry i => exact State.work_tableSound_of_table (·.refreshExpiry i) h (by simp) e
  case overrideExpiry i => exact State.work_tableSound_of_table (·.overrideExpiry i) h (by simp) e
  case seekStepEnd c => exact State.work_tableSound_of_table (·.seekStepEnd c) h (by simp) e
  case searchStepEnd c => exact State.work_tableSound_of_table (·.searchStepEnd c) h (by simp) e
  case seatStepEnd c => exact State.work_tableSound_of_table (·.seatStepEnd c) h (by simp) e
  case settleEnd c => exact State.work_tableSound_of_table (·.settleEnd c) h (by simp) e
  case faultClearPulseEnd c =>
    exact State.work_tableSound_of_table (·.faultClearPulseEnd c) h (by simp) e
  all_goals exact exec_request_tableSound rfl h e

/-- No step leaves the flag set over a table that fails. -/
theorem step_tableSound : ∀ s t : State, s.fcu.TableSound → step s = .next t → t.fcu.TableSound :=
  step_induction (P := fun s => s.fcu.TableSound) exec_tableSound (fun _ _ h => h) (fun _ _ h => h)
    (fun _ _ h => h)

/-! ### A zone leaves UNKNOWN -/

/-- R73: a margin puts a zone in one of the four computed states. -/
theorem FogFields.raw_ne_unknown (p : FogFields) (m : Int) : p.raw m ≠ .unknown := by
  unfold FogFields.raw
  (repeat' split) <;> decide

/-- R73: no move leads to UNKNOWN. -/
theorem FogFields.move_ne_unknown (p : FogFields) (before : ZoneState) (m : Int) :
    p.move before m ≠ .unknown := by
  have hr := p.raw_ne_unknown m
  cases before
  case unknown => exact hr
  all_goals
    simp only [FogFields.move]
    split
    · exact hr
    · (repeat' split) <;> decide

/-- R66: with the flag set and all three roles assigned a zone is computed. -/
theorem Fcu.evaluated_ne_unknown {f : Fcu} {inputs : Option (Int × Int × Int × Bool)}
    (hv : f.valid = true) (hi : inputs ≠ none) (z : Fin 4) :
    (f.evaluated inputs z).state ≠ .unknown := by
  obtain ⟨x, rfl⟩ := Option.ne_none_iff_exists'.mp hi
  simp only [Fcu.evaluated, hv]
  exact FogFields.move_ne_unknown _ _ _

/-- R75 leaves the zones' states as they are. -/
@[simp] theorem Fcu.formDemand_zone_state (f : Fcu) (z : Fin 4) :
    f.formDemand.zones[z].state = f.zones[z].state := by
  simp only [Fcu.formDemand, tabulate_get]

/-- R76 leaves the zones as they are. -/
@[simp] theorem Fcu.stepStage_zones (f : Fcu) (now : Nat) : (f.stepStage now).zones = f.zones := by
  unfold Fcu.stepStage
  (repeat' split) <;> rfl

/-- R65, R66: after an evaluation a zone whose roles are assigned is not UNKNOWN while the flag is set. -/
theorem State.fogEvaluation_ne_unknown {s : State} (hv : s.fcu.valid = true) {z : Fin 4}
    (hi : s.fogInputs z ≠ none) : s.fogEvaluation.fcu.zones[z].state ≠ .unknown := by
  obtain ⟨-, zones, -⟩ := s.fogEvaluation_stages
  rw [zones, Fcu.stepStage_zones, Fcu.formDemand_zone_state, tabulate_get]
  exact Fcu.evaluated_ne_unknown (f := { s.fcu with fields := s.fogFields }) hv hi z

/-! ### VALIDATE -/

/-- R63: the answer to VALIDATE by the table. -/
theorem exec_validate {s : State} {r : Request} (h : s.attends) (ho : r.operands = []) :
    exec (.validate r) s = .next ((s.setFcu { s.fcu with valid := s.fcu.tableOk }).reply r.source 3#8
      r.tag (if s.fcu.tableOk then .done else .badValue) []).arbitrate := by
  rw [exec_of_attends h rfl]
  apply next_arbitrate_congr
  simp only [State.carryOut, ho, State.bare, State.validateTable, Answer.place]
  split <;> rename_i ok <;> simp only [ok, State.doneAs]

/-- Settles O54: the answer is `exec_validate`, the invariant is `step_tableSound`, and a computed zone is
never UNKNOWN. -/
theorem validateJudgesTheTable : Obligations.ValidateJudgesTheTable := by
  refine ⟨fun s r h ho => ⟨fun passes => ?_, fun fails => ?_⟩, fun s t hk hv e => ?_,
    fun f ok => ⟨fun i => ?_, f.one_le_interval ok⟩, fun s t z working hv hi e => ?_⟩
  · rw [exec_validate h ho, s.fcu.tableOk_iff.mpr passes]
    rfl
  · rw [exec_validate h ho, Bool.eq_false_iff.mpr (fails ∘ s.fcu.tableOk_iff.mp)]
    rfl
  · obtain ⟨inRange, passes⟩ := step_tableSound s t ⟨hk, hv⟩ e
    exact ⟨inRange, passes⟩
  · simpa [Fcu.knot] using Fcu.one_le_knot ok i i.isLt
  · have acts : exec .fogEvaluation s = .next s.fogEvaluation.arbitrate :=
      State.work_of_working working State.fogEvaluation
    obtain rfl := Host.Outcome.next.inj (acts.symm.trans e)
    simp only [State.arbitrate_keeps]
    exact State.fogEvaluation_ne_unknown hv hi

end Sys2Proof.Machine
end

section
/-! PROOFS. The filtered budget of HAU (R90): how it moves toward the recovered heat, and that the allocation
of R96 to R99 shares out all of it. -/

namespace Sys2Proof.Machine

/-! ### The filter -/

/-- R90: the first evaluation after a reset takes Q itself. -/
@[simp] theorem filterBudget_first (budget q : Nat) : filterBudget true budget q = q := rfl

/-- R90 toward a higher Q: an eighth of the distance is rounded down. -/
theorem tdiv_eight_rising {budget q : Nat} (h : budget ≤ q) :
    Int.tdiv ((q : Int) - budget) 8 = ((q - budget) / 8 : Nat) := by
  rw [← Nat.cast_sub h]; rfl

/-- R90 toward a lower Q: truncation toward zero rounds the size of the step down here too. -/
theorem tdiv_eight_falling {budget q : Nat} (h : q ≤ budget) :
    Int.tdiv ((q : Int) - budget) 8 = -((budget - q) / 8 : Nat) := by
  rw [← neg_sub, ← Nat.cast_sub h, Int.neg_tdiv]; rfl

/-- The sum of R90 is never negative, so nothing is lost where it is kept as a natural number. -/
theorem filterBudget_cast (budget q : Nat) :
    (filterBudget false budget q : Int) = budget + Int.tdiv ((q : Int) - budget) 8 := by
  refine Int.toNat_of_nonneg ?_
  rcases le_total budget q with up | down
  · rw [tdiv_eight_rising up]; omega
  · rw [tdiv_eight_falling down]; omega

theorem filterBudget_rising {budget q : Nat} (h : budget ≤ q) :
    filterBudget false budget q = budget + (q - budget) / 8 := by
  have moved := filterBudget_cast budget q
  rw [tdiv_eight_rising h] at moved
  omega

theorem filterBudget_falling {budget q : Nat} (h : q ≤ budget) :
    filterBudget false budget q = budget - (budget - q) / 8 := by
  have moved := filterBudget_cast budget q
  rw [tdiv_eight_falling h] at moved
  omega

/-- R90: the budget never passes Q on its way up. -/
theorem filterBudget_between_rising {budget q : Nat} (h : budget ≤ q) :
    budget ≤ filterBudget false budget q ∧ filterBudget false budget q ≤ q := by
  rw [filterBudget_rising h]; omega

/-- R90: nor on its way down. -/
theorem filterBudget_between_falling {budget q : Nat} (h : q ≤ budget) :
    q ≤ filterBudget false budget q ∧ filterBudget false budget q ≤ budget := by
  rw [filterBudget_falling h]; omega

/-- R90: an eighth of 7 or less is nothing. -/
theorem filterBudget_near {budget q : Nat} (above : q ≤ budget + 7) (below : budget ≤ q + 7) :
    filterBudget false budget q = budget := by
  rcases le_total budget q with up | down
  · rw [filterBudget_rising up]; omega
  · rw [filterBudget_falling down]; omega

/-- The budget stays at most any bound that it and Q keep. -/
theorem filterBudget_le {first : Bool} {budget q n : Nat} (hb : budget ≤ n) (hq : q ≤ n) :
    filterBudget first budget q ≤ n := by
  cases first with
  | true => exact hq
  | false =>
    rcases le_total budget q with up | down
    · exact (filterBudget_between_rising up).2.trans hq
    · exact (filterBudget_between_falling down).2.trans hb

/-- R89: the clamp on the recovered heat. -/
theorem State.recovered_le (s : State) : s.recovered.1 ≤ 65535 := by
  unfold State.recovered
  split
  · exact min_le_right _ _
  · exact Nat.zero_le _

/-! ### The budget is shared out -/

/-- The sum of a vector over its indices. -/
theorem total_eq_sum {n : Nat} (v : Vector Nat n) : total v = ∑ i : Fin n, v[i] := by
  rw [total, ← List.sum_eq_foldl, ← List.sum_ofFn]
  congr 1
  exact List.ext_getElem (by simp) (by simp)

@[simp] theorem total_tabulate {n : Nat} (f : Fin n → Nat) : total (tabulate n f) = ∑ i, f i := by
  rw [total_eq_sum]
  exact Finset.sum_congr rfl fun i _ => tabulate_get f i

theorem classGrant_le (inService : Bool) (demand remaining : Nat) :
    classGrant inService demand remaining ≤ remaining := by
  unfold classGrant
  split
  · exact min_le_right _ _
  · exact Nat.zero_le _

theorem spectatorCap_le (inService : Bool) (d2 remaining : Nat) :
    spectatorCap inService d2 remaining ≤ remaining :=
  classGrant_le inService d2 remaining

/-- R98: a zone is granted at most its share of the cap. -/
theorem zoneGrant_mul_le (demand cap d2 : Nat) : zoneGrant demand cap d2 * d2 ≤ demand * cap := by
  unfold zoneGrant
  split
  · simp
  · split
    · next whole => rw [whole]
    · exact Nat.div_mul_le_self _ _

/-- R98: rounding down each zone's share, the zones together stay within the cap. -/
theorem sum_zoneGrant_le {n : Nat} (demand : Fin n → Nat) (cap : Nat) :
    ∑ z, zoneGrant (demand z) cap (∑ i, demand i) ≤ cap := by
  rcases Nat.eq_zero_or_pos (∑ i, demand i) with zero | positive
  · simp [zero, zoneGrant]
  · refine Nat.le_of_mul_le_mul_right ?_ positive
    calc (∑ z, zoneGrant (demand z) cap (∑ i, demand i)) * ∑ i, demand i
        = ∑ z, zoneGrant (demand z) cap (∑ i, demand i) * ∑ i, demand i := Finset.sum_mul _ _ _
      _ ≤ ∑ z, demand z * cap := Finset.sum_le_sum fun z _ => zoneGrant_mul_le _ _ _
      _ = cap * ∑ i, demand i := by rw [← Finset.sum_mul, Nat.mul_comm]

/-- R96 to R99: the four grants and what is rejected make up the budget; no class is granted more than the
classes before it left. -/
theorem HeatInputs.allocate_shared (x : HeatInputs) :
    let r := x.allocate
    r.classes[0].grant + r.classes[1].grant + r.classes[2].grant + r.classes[3].grant + r.rejected
      = x.budget := by
  let g0 := classGrant x.inService[0] x.demands[0] x.budget
  let g1 := classGrant x.inService[1] x.demands[1] (x.budget - g0)
  let cap := spectatorCap x.inService[2] (total x.zoneDemands) (x.budget - g0 - g1)
  let g2 := total (tabulate 8 fun z => zoneGrant x.zoneDemands[z] cap (total x.zoneDemands))
  let g3 := classGrant x.inService[3] x.demands[3] (x.budget - g0 - g1 - g2)
  have h0 : g0 ≤ x.budget := classGrant_le _ _ _
  have h1 : g1 ≤ x.budget - g0 := classGrant_le _ _ _
  have h2 : g2 ≤ x.budget - g0 - g1 := by
    have zones : g2 ≤ cap := by
      simpa only [g2, total_tabulate, total_eq_sum x.zoneDemands]
        using sum_zoneGrant_le (fun z => x.zoneDemands[z]) cap
    exact zones.trans (spectatorCap_le _ _ _)
  have h3 : g3 ≤ x.budget - g0 - g1 - g2 := classGrant_le _ _ _
  show g0 + g1 + g2 + g3 + (x.budget - g0 - g1 - g2 - g3) = x.budget
  omega

/-! ### The evaluation -/

/-- Settles O39: the evaluation's budget is `filterBudget` of the recovered heat, whose movement is
stated by the lemmas above, and `HeatInputs.allocate_shared` shares it out. -/
theorem filteredBudgetFollowsHeat : Obligations.FilteredBudgetFollowsHeat := by
  refine ⟨fun s t working e => ?_, rfl, rfl, fun _ _ => ⟨rfl, rfl⟩, rfl, rfl⟩
  obtain ⟨-, record⟩ := exec_heatEvaluation working e
  obtain ⟨budget, first, -⟩ := exec_heatEvaluation_record working e
  have result : t.hau.result = s.heatInputs.allocate := by rw [record]
  have shared : t.hau.result.budget = t.hau.budget := by rw [record]
  have heat : t.hau.result.heat = s.recovered.1 := by rw [result]; rfl
  simp only [shared, heat, first, budget, true_and]
  refine ⟨fun h => ?_, fun h => ?_, fun h => filterBudget_le h s.recovered_le, ?_⟩
  · rw [h, filterBudget_first]
  · rw [h]
    exact ⟨filterBudget_cast _ _, filterBudget_between_rising, filterBudget_between_falling,
      filterBudget_near⟩
  · rw [result]
    exact s.heatInputs.allocate_shared

end Sys2Proof.Machine
end

section
/-! PROOFS. The supervisor boiler limit of PRF (R156): what SET_BOILER_LIMIT stores, and that selections and
profile writes write other fields of PRF's record. -/

namespace Sys2Proof.Machine

/-! ### SET_BOILER_LIMIT -/

/-- R177, orders 2 and 4: an operand of one byte that passes its check is acted on and answered DONE. -/
theorem State.valued_of_ok (s : State) {ok : Nat → Bool} (act : Nat → State) {b : Byte}
    (h : ok b.toNat = true) : s.valued [b] ok act = (act b.toNat).doneAs :=
  if_pos h

/-- R177, order 4: one that fails its check is BAD_VALUE, and nothing is changed. -/
theorem State.valued_of_not_ok (s : State) {ok : Nat → Bool} (act : Nat → State) {b : Byte}
    (h : ok b.toNat = false) : s.valued [b] ok act = s.refuse .badValue :=
  if_neg (Bool.eq_false_iff.mp h)

/-- R156: a limit from 0 to 2 is stored, whether it differs or not. -/
theorem State.requestLimit_in_range (s : State) {limit : Byte} (h : limit.toNat ≤ 2) :
    s.requestLimit [limit] = (s.setPrf { s.prf with limit := limit.toNat }).doneAs :=
  s.valued_of_ok _ (decide_eq_true h)

/-- R156: a limit above 2 leaves the stored one. -/
theorem State.requestLimit_out_of_range (s : State) {limit : Byte} (h : 2 < limit.toNat) :
    s.requestLimit [limit] = s.refuse .badValue :=
  s.valued_of_not_ok _ (decide_eq_false (Nat.not_le_of_lt h))

/-- R176: a part that attends answers SET_BOILER_LIMIT in the same step. -/
theorem exec_setBoilerLimit {s : State} (h : s.attends) (r : Request) :
    exec (.setBoilerLimit r) s = .next ((s.requestLimit r.operands).place 12#8 r).arbitrate :=
  exec_of_attends h rfl

/-! ### What else writes PRF -/

/-- R154: a selection writes the active index alone; the notice and the repositioning of SHOW leave PRF. -/
theorem State.takeSelection_prf (s : State) (k : Fin 8) (cause : Nat) :
    (s.takeSelection k cause).prf = { s.prf with active := some k } := by
  simp only [State.takeSelection, State.repositionShow_keeps, State.raise_keeps,
    State.setPrf_prf]

/-- R150, R151: a profile write stores the record alone; the notice of a rewrite leaves PRF. -/
theorem State.storeProfile_prf (s : State) (i : Fin 8) (p : Profile) :
    (s.storeProfile i p).prf = { s.prf with profiles := s.prf.profiles.set i p } := by
  unfold State.storeProfile
  split
  · simp only [State.raise_keeps, State.setPrf_prf]
  · rfl

/-! ### What the limit applies to -/

theorem State.activeProfile_of_active {s : State} {k : Fin 8} (h : s.prf.active = some k) :
    s.activeProfile = some s.prf.profiles[k] := by
  simp only [State.activeProfile, h, Option.map_some]

/-- R157: the level in force is the lesser of the active profile's level and the limit. -/
theorem State.heatFields_level {s : State} {p : Profile} (h : s.activeProfile = some p) :
    s.heatFields.level = min p.boilerLevel s.prf.limit := by
  simp only [State.heatFields, h]

/-- Settles O57: the answers are `requestLimit` in and out of range, and the rest is in the equations of PRF
after a selection and after a profile write. -/
theorem boilerLimitIsStored : Obligations.BoilerLimitIsStored := by
  refine ⟨fun s r limit h ho => ⟨fun inRange => ?_, fun above => ?_⟩,
    fun s k cause p => ⟨?_, ?_, fun active => ?_⟩⟩
  · rw [exec_setBoilerLimit h, ho, s.requestLimit_in_range inRange]
    rfl
  · rw [exec_setBoilerLimit h, ho, s.requestLimit_out_of_range above]
    rfl
  · rw [s.takeSelection_prf]
  · rw [s.storeProfile_prf]
  · exact State.heatFields_level (State.activeProfile_of_active active)

end Sys2Proof.Machine
end

section
/-! PROOFS. The reset-cause record of MGR (R183): what each of the three resets and the start of work leave in
MGR, and the request that clears the record. -/

namespace Sys2Proof.Machine

/-! ### MGR after a reset -/

/-- R182, R183: power-on puts MGR at its power-on values, the record at POWER alone. -/
@[simp] theorem State.powerOn_mgr (s : State) : s.powerOn.mgr = Mgr.powerOn := rfl

@[simp] theorem State.powerOn_hold (s : State) : s.powerOn.hold = .powerOn := rfl

/-- R185: what a line and a supervisor reset set alike in MGR. -/
@[simp] theorem State.warmReset_mgr (s : State) : s.warmReset.mgr = s.mgr.afterReset := by
  have kept : (s.resetCue s.now).mgr = s.mgr := by simp
  exact congrArg Mgr.afterReset kept

/-- R183, R185: a line reset sets LINE beside. -/
@[simp] theorem State.lineReset_mgr (s : State) :
    s.lineReset.mgr = { s.mgr.afterReset with lineFlag := true } := by
  simp only [State.lineReset, State.warmReset_mgr]

/-- R183, R185: a supervisor reset sets SUPERVISOR beside. -/
@[simp] theorem State.supervisorReset_mgr (s : State) :
    s.supervisorReset.mgr = { s.mgr.afterReset with supervisorFlag := true } := by
  simp only [State.supervisorReset, State.readAllLines_keeps, State.setMgr_mgr,
    State.startTimers_keeps, State.warmReset_mgr]

/-! ### MGR as work starts -/

/-- R181: of MGR, the start of work writes the station address alone. -/
theorem State.beginWork_mgr (s : State) (straps : BitVec 7) (kind : Nat) :
    (s.beginWork straps kind).mgr = { s.mgr with address := strapAddress straps } := by
  simp only [State.beginWork, State.raise_keeps, State.setHold_mgr, State.setMgr_mgr,
    State.startTimers_keeps]

theorem State.beginWork_hold (s : State) (straps : BitVec 7) (kind : Nat) :
    (s.beginWork straps kind).hold = .working := by
  simp only [State.beginWork, State.raise_keeps, State.setHold_hold]

/-- R181, R182: after either hold. -/
theorem State.workStart_mgr {s : State} (held : s.hold ≠ .working) (straps : BitVec 7) :
    (s.workStart straps).mgr = { s.mgr with address := strapAddress straps } := by
  unfold State.workStart
  split
  case h_1 working => exact absurd working held
  case h_2 => exact s.beginWork_mgr straps 0
  case h_3 => simp only [State.readAllLines_keeps, State.beginWork_mgr]

/-- R182: after WORK_START the part works, whatever held it. -/
theorem State.workStart_hold (s : State) (straps : BitVec 7) :
    (s.workStart straps).hold = .working := by
  unfold State.workStart
  split
  case h_1 working => exact working
  case h_2 => exact s.beginWork_hold straps 0
  case h_3 => simp only [State.readAllLines_keeps, State.beginWork_hold]

/-! ### MGR at the end of RESTART's REPLY -/

/-- R184: the end of a REPLY that RESTART marked is the supervisor reset. -/
theorem State.endReply_mgr_of_restarting {s : State} (marked : s.mgr.restarting = true) :
    s.endReply.mgr = { s.mgr.afterReset with supervisorFlag := true } := by
  simp only [State.endReply, State.setSupervisor_mgr, marked, if_true, State.supervisorReset_mgr]

/-- R11, R184: the transmission that ends on the supervisor link is that REPLY. -/
theorem State.endUpTransmission_mgr_of_restarting {s : State} {x : Sending}
    (sends : s.supervisor.line.sending = some x) (reply : x.kind = .reply)
    (marked : s.mgr.restarting = true) :
    s.endUpTransmission.mgr = { s.mgr.afterReset with supervisorFlag := true } := by
  have kept (p : SupervisorPort) : ((s.comesAt x.endAt).setSupervisor p).mgr = s.mgr := by simp
  simp only [State.endUpTransmission, sends, reply, if_true]
  rw [State.endReply_mgr_of_restarting (by rwa [kept]), kept]

/-! ### The commands -/

/-- The end of a step leaves MGR as the command's act left it. -/
theorem mgr_of_next_arbitrate {u t : State} (e : (.next u.arbitrate : Reaction) = .next t) :
    t.mgr = u.mgr := by
  cases e
  simp only [State.arbitrate_keeps]

/-- The end of a step leaves the hold as the command's act left it. -/
theorem hold_of_next_arbitrate {u t : State} (e : (.next u.arbitrate : Reaction) = .next t) :
    t.hold = u.hold := by
  cases e
  simp only [State.arbitrate_keeps]

/-- What a command that acts while the part works leaves in MGR. -/
theorem State.work_mgr {s t : State} (working : s.hold = .working) {act : State → State}
    (e : s.work act = .next t) : t.mgr = (act s).mgr :=
  mgr_of_next_arbitrate ((State.work_of_working working act).symm.trans e)

theorem exec_lineReset_mgr {s t : State} (working : s.hold = .working)
    (e : exec .lineReset s = .next t) : t.mgr = { s.mgr.afterReset with lineFlag := true } :=
  (State.work_mgr working e).trans s.lineReset_mgr

/-- R183: CLEAR_RESET_CAUSE clears the three flags and is answered DONE. -/
theorem exec_clearResetCause {s : State} {r : Request} (h : s.attends) (ho : r.operands = []) :
    exec (.clearResetCause r) s = .next ((s.setMgr { s.mgr with
      power := false, lineFlag := false, supervisorFlag := false }).reply r.source 17#8 r.tag .done
        []).arbitrate := by
  rw [exec_of_attends h rfl]
  apply next_arbitrate_congr
  simp only [State.carryOut, ho, State.requestClearCause, State.bare, State.doneAs, Answer.place]

/-- R183: a power-on, the start of work and a line reset leave POWER and LINE. -/
theorem resetCause_after_powerOn_lineReset {s t u v : State} {straps : BitVec 7}
    (powered : exec .powerOn s = .next t) (started : exec (.workStart straps) t = .next u)
    (reset : exec .lineReset u = .next v) :
    v.mgr.power = true ∧ v.mgr.lineFlag = true ∧ v.mgr.supervisorFlag = false := by
  have held : t.hold ≠ .working := by
    rw [hold_of_next_arbitrate powered, State.powerOn_hold]; decide
  have working : u.hold = .working :=
    (hold_of_next_arbitrate started).trans (t.workStart_hold straps)
  have inMgr : u.mgr = { Mgr.powerOn with address := strapAddress straps } := by
    rw [mgr_of_next_arbitrate started, State.workStart_mgr held, mgr_of_next_arbitrate powered,
      State.powerOn_mgr]
  rw [exec_lineReset_mgr working reset, inMgr]
  exact ⟨rfl, rfl, rfl⟩

/-- Settles O59: each clause reads the flags off what the command leaves in MGR. -/
theorem resetCauseIsRecorded : Obligations.ResetCauseIsRecorded := by
  refine ⟨fun s t e => ?_, fun s t working e => ?_, fun s t x working sends reply marked e => ?_,
    fun _ _ => exec_clearResetCause, fun _ _ _ _ _ => resetCause_after_powerOn_lineReset⟩
  · rw [mgr_of_next_arbitrate e, State.powerOn_mgr]
    exact ⟨rfl, rfl, rfl⟩
  · rw [exec_lineReset_mgr working e]
    exact ⟨rfl, rfl, rfl⟩
  · have ended : t.mgr = s.endUpTransmission.mgr := State.work_mgr working e
    rw [ended, State.endUpTransmission_mgr_of_restarting sends reply marked]
    exact ⟨rfl, rfl, rfl⟩

end Sys2Proof.Machine
end
